-- ==== Sys2Proof/Word.lean ====
section
/-! DEFINITION. The word type and the register-index type of CAVL-PRF.
R7, R55: an instruction word is an unsigned 32-bit integer whose bits are numbered 31 down to 0.
R10, R14, R58: a register is known by its index 0 to 31 only, and an operand field holds an index or nothing. -/

namespace Sys2Proof

/-- A `u32`: an instruction word or a program-counter label (R7, R10). -/
abbrev Word := BitVec 32

/-- A register index, 0 to 31 (R6 NUM_REGS, R14, R24). -/
abbrev RegIdx := Fin 32

/-- An operand field: the source writes -1 for no operand, which is `none` here; otherwise an index 0 to 31
(R10, R58). The type leaves out every other value (93_implementation_defined.md U3). -/
abbrev Operand := Option RegIdx

end Sys2Proof
end

