-- ==== Sys2Proof/Config.lean ====
section
/-! DEFINITION. The fixed constants and the open implementation parameters of CAVL-PRF (R6).
The fixed constants are definitions. The open parameters are one record, `Params`: the spec asks a model to take
them as arguments (93_implementation_defined.md U9), so that a claim can be stated for every value of them.
`Params.default` holds the values the spec decides on. -/

namespace Sys2Proof

/-- What step 5 does to `S[ID]` on a stall: R96 (`bubble`, the specified behaviour) or R97 (`hold`, the variant). -/
inductive StallIdPolicy
  | bubble
  | hold
deriving DecidableEq, Repr

/-- The open parameters of R6, with decisions D1, D8, D9 and D13. They are fixed for one machine. -/
structure Params where
  /-- `FUNCT_JR` (D9). -/
  functJr : BitVec 6
  /-- `FUNCT_JALR` (D9). -/
  functJalr : BitVec 6
  /-- `STALL_ID_POLICY` (D1). -/
  stallIdPolicy : StallIdPolicy
  /-- `CONTROL_INCLUDES_JR` (D8). -/
  controlIncludesJr : Bool
  /-- `PC_BASE` (D13). -/
  pcBase : Nat
  /-- `PC_STRIDE` (D13). -/
  pcStride : Nat
deriving DecidableEq, Repr

/-- The values of R6. `functJr` and `functJalr` are PRESUMED (general knowledge, the spec's own mark, log entry 7). -/
def Params.default : Params where
  functJr := 8#6
  functJalr := 9#6
  stallIdPolicy := .bubble
  controlIncludesJr := true
  pcBase := 0
  pcStride := 4

/-- `CYCLE_CAP` (R6, R102). -/
abbrev cycleCap : Nat := 500

/-- `HISTORY_CAP` (R6, R158). -/
abbrev historyCap : Nat := 50

/-- `LINK_REG` (R6, R79). -/
abbrev linkReg : RegIdx := 31

/-- `ZERO_REG` (R6, R81): never hazardous, never marked busy. -/
abbrev zeroReg : RegIdx := 0

end Sys2Proof
end

