-- ==== Sys2Proof/Syntax.lean ====
section
/-! DEFINITION. The instructions: one constructor per row of spec/opcode_table.json (R67), and the ten decode classes
of R57. A constructor carries every bit of its word that the row leaves free, the bits CAVL-PRF never reads included
(R55: `w[10:6]`, the immediate `w[15:0]` where it is no register field, the jump target `w[25:0]`), so that encoding
loses nothing. The field names are those of R55. -/

namespace Sys2Proof

/-- The ten decode classes of R57. -/
inductive DecodeClass
  | zero | jr | jalr | reg | jump | jumplink | branch | load | store | imm
deriving DecidableEq, Repr

/-- One constructor per row of the opcode table. `fa`, `fb`, `fc` are the register fields, `sh` is the unread
`w[10:6]`, `fn` is FN, `low` is `w[15:0]` and `target` is `w[25:0]`. -/
inductive Instr
  /-- `ZERO` (R71). -/
  | zero
  /-- `JR` (R73). -/
  | jr (fa fb fc : RegIdx) (sh : BitVec 5)
  /-- `JALR` (R74). -/
  | jalr (fa fb fc : RegIdx) (sh : BitVec 5)
  /-- `REG` (R72). -/
  | reg (fa fb fc : RegIdx) (sh : BitVec 5) (fn : BitVec 6)
  /-- `IMM_1` (R80). -/
  | imm1 (fa fb : RegIdx) (low : BitVec 16)
  /-- `JUMP` (R78). -/
  | jump (target : BitVec 26)
  /-- `JUMPLINK` (R79). -/
  | jumplink (target : BitVec 26)
  /-- `BRANCH_4` (R77). -/
  | branch4 (fa fb : RegIdx) (low : BitVec 16)
  /-- `BRANCH_5` (R77). -/
  | branch5 (fa fb : RegIdx) (low : BitVec 16)
  /-- `BRANCH_6` (R77). -/
  | branch6 (fa fb : RegIdx) (low : BitVec 16)
  /-- `BRANCH_7` (R77). -/
  | branch7 (fa fb : RegIdx) (low : BitVec 16)
  /-- `IMM_8` (R80). -/
  | imm8 (fa fb : RegIdx) (low : BitVec 16)
  /-- `IMM_9` (R80). -/
  | imm9 (fa fb : RegIdx) (low : BitVec 16)
  /-- `IMM_10` (R80). -/
  | imm10 (fa fb : RegIdx) (low : BitVec 16)
  /-- `IMM_11` (R80). -/
  | imm11 (fa fb : RegIdx) (low : BitVec 16)
  /-- `IMM_12` (R80). -/
  | imm12 (fa fb : RegIdx) (low : BitVec 16)
  /-- `IMM_13` (R80). -/
  | imm13 (fa fb : RegIdx) (low : BitVec 16)
  /-- `IMM_14` (R80). -/
  | imm14 (fa fb : RegIdx) (low : BitVec 16)
  /-- `IMM_15` (R80). -/
  | imm15 (fa fb : RegIdx) (low : BitVec 16)
  /-- `IMM_16` (R80). -/
  | imm16 (fa fb : RegIdx) (low : BitVec 16)
  /-- `IMM_17` (R80). -/
  | imm17 (fa fb : RegIdx) (low : BitVec 16)
  /-- `IMM_18` (R80). -/
  | imm18 (fa fb : RegIdx) (low : BitVec 16)
  /-- `IMM_19` (R80). -/
  | imm19 (fa fb : RegIdx) (low : BitVec 16)
  /-- `IMM_20` (R80). -/
  | imm20 (fa fb : RegIdx) (low : BitVec 16)
  /-- `IMM_21` (R80). -/
  | imm21 (fa fb : RegIdx) (low : BitVec 16)
  /-- `IMM_22` (R80). -/
  | imm22 (fa fb : RegIdx) (low : BitVec 16)
  /-- `IMM_23` (R80). -/
  | imm23 (fa fb : RegIdx) (low : BitVec 16)
  /-- `IMM_24` (R80). -/
  | imm24 (fa fb : RegIdx) (low : BitVec 16)
  /-- `IMM_25` (R80). -/
  | imm25 (fa fb : RegIdx) (low : BitVec 16)
  /-- `IMM_26` (R80). -/
  | imm26 (fa fb : RegIdx) (low : BitVec 16)
  /-- `IMM_27` (R80). -/
  | imm27 (fa fb : RegIdx) (low : BitVec 16)
  /-- `IMM_28` (R80). -/
  | imm28 (fa fb : RegIdx) (low : BitVec 16)
  /-- `IMM_29` (R80). -/
  | imm29 (fa fb : RegIdx) (low : BitVec 16)
  /-- `IMM_30` (R80). -/
  | imm30 (fa fb : RegIdx) (low : BitVec 16)
  /-- `IMM_31` (R80). -/
  | imm31 (fa fb : RegIdx) (low : BitVec 16)
  /-- `LOAD_32` (R75). -/
  | load32 (fa fb : RegIdx) (low : BitVec 16)
  /-- `LOAD_33` (R75). -/
  | load33 (fa fb : RegIdx) (low : BitVec 16)
  /-- `LOAD_34` (R75). -/
  | load34 (fa fb : RegIdx) (low : BitVec 16)
  /-- `LOAD_35` (R75). -/
  | load35 (fa fb : RegIdx) (low : BitVec 16)
  /-- `LOAD_36` (R75). -/
  | load36 (fa fb : RegIdx) (low : BitVec 16)
  /-- `LOAD_37` (R75). -/
  | load37 (fa fb : RegIdx) (low : BitVec 16)
  /-- `IMM_38` (R80). -/
  | imm38 (fa fb : RegIdx) (low : BitVec 16)
  /-- `IMM_39` (R80). -/
  | imm39 (fa fb : RegIdx) (low : BitVec 16)
  /-- `STORE_40` (R76). -/
  | store40 (fa fb : RegIdx) (low : BitVec 16)
  /-- `STORE_41` (R76). -/
  | store41 (fa fb : RegIdx) (low : BitVec 16)
  /-- `STORE_42` (R76). -/
  | store42 (fa fb : RegIdx) (low : BitVec 16)
  /-- `STORE_43` (R76). -/
  | store43 (fa fb : RegIdx) (low : BitVec 16)
  /-- `IMM_44` (R80). -/
  | imm44 (fa fb : RegIdx) (low : BitVec 16)
  /-- `IMM_45` (R80). -/
  | imm45 (fa fb : RegIdx) (low : BitVec 16)
  /-- `IMM_46` (R80). -/
  | imm46 (fa fb : RegIdx) (low : BitVec 16)
  /-- `IMM_47` (R80). -/
  | imm47 (fa fb : RegIdx) (low : BitVec 16)
  /-- `IMM_48` (R80). -/
  | imm48 (fa fb : RegIdx) (low : BitVec 16)
  /-- `IMM_49` (R80). -/
  | imm49 (fa fb : RegIdx) (low : BitVec 16)
  /-- `IMM_50` (R80). -/
  | imm50 (fa fb : RegIdx) (low : BitVec 16)
  /-- `IMM_51` (R80). -/
  | imm51 (fa fb : RegIdx) (low : BitVec 16)
  /-- `IMM_52` (R80). -/
  | imm52 (fa fb : RegIdx) (low : BitVec 16)
  /-- `IMM_53` (R80). -/
  | imm53 (fa fb : RegIdx) (low : BitVec 16)
  /-- `IMM_54` (R80). -/
  | imm54 (fa fb : RegIdx) (low : BitVec 16)
  /-- `IMM_55` (R80). -/
  | imm55 (fa fb : RegIdx) (low : BitVec 16)
  /-- `IMM_56` (R80). -/
  | imm56 (fa fb : RegIdx) (low : BitVec 16)
  /-- `IMM_57` (R80). -/
  | imm57 (fa fb : RegIdx) (low : BitVec 16)
  /-- `IMM_58` (R80). -/
  | imm58 (fa fb : RegIdx) (low : BitVec 16)
  /-- `IMM_59` (R80). -/
  | imm59 (fa fb : RegIdx) (low : BitVec 16)
  /-- `IMM_60` (R80). -/
  | imm60 (fa fb : RegIdx) (low : BitVec 16)
  /-- `IMM_61` (R80). -/
  | imm61 (fa fb : RegIdx) (low : BitVec 16)
  /-- `IMM_62` (R80). -/
  | imm62 (fa fb : RegIdx) (low : BitVec 16)
  /-- `IMM_63` (R80). -/
  | imm63 (fa fb : RegIdx) (low : BitVec 16)
deriving DecidableEq, Repr

/-- The class column of the opcode table (R57, R59). -/
def Instr.cls : Instr → DecodeClass
  | .zero => .zero
  | .jr .. => .jr
  | .jalr .. => .jalr
  | .reg .. => .reg
  | .imm1 .. => .imm
  | .jump .. => .jump
  | .jumplink .. => .jumplink
  | .branch4 .. => .branch
  | .branch5 .. => .branch
  | .branch6 .. => .branch
  | .branch7 .. => .branch
  | .imm8 .. => .imm
  | .imm9 .. => .imm
  | .imm10 .. => .imm
  | .imm11 .. => .imm
  | .imm12 .. => .imm
  | .imm13 .. => .imm
  | .imm14 .. => .imm
  | .imm15 .. => .imm
  | .imm16 .. => .imm
  | .imm17 .. => .imm
  | .imm18 .. => .imm
  | .imm19 .. => .imm
  | .imm20 .. => .imm
  | .imm21 .. => .imm
  | .imm22 .. => .imm
  | .imm23 .. => .imm
  | .imm24 .. => .imm
  | .imm25 .. => .imm
  | .imm26 .. => .imm
  | .imm27 .. => .imm
  | .imm28 .. => .imm
  | .imm29 .. => .imm
  | .imm30 .. => .imm
  | .imm31 .. => .imm
  | .load32 .. => .load
  | .load33 .. => .load
  | .load34 .. => .load
  | .load35 .. => .load
  | .load36 .. => .load
  | .load37 .. => .load
  | .imm38 .. => .imm
  | .imm39 .. => .imm
  | .store40 .. => .store
  | .store41 .. => .store
  | .store42 .. => .store
  | .store43 .. => .store
  | .imm44 .. => .imm
  | .imm45 .. => .imm
  | .imm46 .. => .imm
  | .imm47 .. => .imm
  | .imm48 .. => .imm
  | .imm49 .. => .imm
  | .imm50 .. => .imm
  | .imm51 .. => .imm
  | .imm52 .. => .imm
  | .imm53 .. => .imm
  | .imm54 .. => .imm
  | .imm55 .. => .imm
  | .imm56 .. => .imm
  | .imm57 .. => .imm
  | .imm58 .. => .imm
  | .imm59 .. => .imm
  | .imm60 .. => .imm
  | .imm61 .. => .imm
  | .imm62 .. => .imm
  | .imm63 .. => .imm

end Sys2Proof
end

