-- ==== Sys2Proof/WellFormed.lean ====
section
/-! DEFINITION. Which instruction terms are the decoding of some word. The rows of opcode 0 are tried in the order
ZERO, JR, JALR, REG (R57, R67), so a term of a later row whose word an earlier row claims is ill-formed. Every term of
the other rows is well-formed: no word is illegal or reserved (R63). -/

namespace Sys2Proof

/-- The five bit groups of an opcode-0 word are not all zero, so the word is not the ZERO word (R57 line 1). -/
def specialNonzero (fa fb fc : RegIdx) (sh : BitVec 5) (fn : BitVec 6) : Bool :=
  !(fa == 0 && fb == 0 && fc == 0 && sh == 0#5 && fn == 0#6)

/-- The instruction is what its own word decodes to, under the funct numbers of `p` (R57). -/
def Instr.wf (p : Params) : Instr → Bool
  | .zero => true
  | .jr fa fb fc sh => specialNonzero fa fb fc sh p.functJr
  | .jalr fa fb fc sh => specialNonzero fa fb fc sh p.functJalr && p.functJalr != p.functJr
  | .reg fa fb fc sh fn => specialNonzero fa fb fc sh fn && fn != p.functJr && fn != p.functJalr
  | .imm1 .. => true
  | .jump .. => true
  | .jumplink .. => true
  | .branch4 .. => true
  | .branch5 .. => true
  | .branch6 .. => true
  | .branch7 .. => true
  | .imm8 .. => true
  | .imm9 .. => true
  | .imm10 .. => true
  | .imm11 .. => true
  | .imm12 .. => true
  | .imm13 .. => true
  | .imm14 .. => true
  | .imm15 .. => true
  | .imm16 .. => true
  | .imm17 .. => true
  | .imm18 .. => true
  | .imm19 .. => true
  | .imm20 .. => true
  | .imm21 .. => true
  | .imm22 .. => true
  | .imm23 .. => true
  | .imm24 .. => true
  | .imm25 .. => true
  | .imm26 .. => true
  | .imm27 .. => true
  | .imm28 .. => true
  | .imm29 .. => true
  | .imm30 .. => true
  | .imm31 .. => true
  | .load32 .. => true
  | .load33 .. => true
  | .load34 .. => true
  | .load35 .. => true
  | .load36 .. => true
  | .load37 .. => true
  | .imm38 .. => true
  | .imm39 .. => true
  | .store40 .. => true
  | .store41 .. => true
  | .store42 .. => true
  | .store43 .. => true
  | .imm44 .. => true
  | .imm45 .. => true
  | .imm46 .. => true
  | .imm47 .. => true
  | .imm48 .. => true
  | .imm49 .. => true
  | .imm50 .. => true
  | .imm51 .. => true
  | .imm52 .. => true
  | .imm53 .. => true
  | .imm54 .. => true
  | .imm55 .. => true
  | .imm56 .. => true
  | .imm57 .. => true
  | .imm58 .. => true
  | .imm59 .. => true
  | .imm60 .. => true
  | .imm61 .. => true
  | .imm62 .. => true
  | .imm63 .. => true

end Sys2Proof
end

