-- ==== Sys2Proof/Decode.lean ====
section
/-! DEFINITION. From a word to an instruction and back: the fields of R55, the class selection of R57 and R59, total on
every word (R63: no word is illegal, so nothing is refused), and the encoder written from the same table. -/

namespace Sys2Proof

/-- OP, `w[31:26]` (R55). -/
def opField (w : Word) : BitVec 6 := w.extractLsb' 26 6
/-- FA, `w[25:21]` (R55, R58: the field's value is the register index). -/
def faField (w : Word) : RegIdx := (w.extractLsb' 21 5).toFin
/-- FB, `w[20:16]` (R55). -/
def fbField (w : Word) : RegIdx := (w.extractLsb' 16 5).toFin
/-- FC, `w[15:11]` (R55). -/
def fcField (w : Word) : RegIdx := (w.extractLsb' 11 5).toFin
/-- `w[10:6]`, which the block never reads (R55). -/
def shField (w : Word) : BitVec 5 := w.extractLsb' 6 5
/-- FN, `w[5:0]` (R55). -/
def fnField (w : Word) : BitVec 6 := w.extractLsb' 0 6
/-- `w[15:0]`, never read as an immediate (R55, R58). -/
def lowField (w : Word) : BitVec 16 := w.extractLsb' 0 16
/-- `w[25:0]`, never read as a target (R55). -/
def targetField (w : Word) : BitVec 26 := w.extractLsb' 0 26

/-- A word of opcode 0 that is not all zero: R57 lines 2 to 4. -/
def decodeSpecial (p : Params) (fa fb fc : RegIdx) (sh : BitVec 5) (fn : BitVec 6) : Instr :=
  if fn = p.functJr then .jr fa fb fc sh
  else if fn = p.functJalr then .jalr fa fb fc sh
  else .reg fa fb fc sh fn

/-- A word of opcode 1 to 63: R57 lines 5 to 10 and the map of R59. The last line is opcode 63, the only 6-bit value
that is left (opcode 0 goes to `decodeSpecial`). -/
def decodeOpcode (op : Nat) (fa fb : RegIdx) (low : BitVec 16) (target : BitVec 26) : Instr :=
  match op with
  | 1 => .imm1 fa fb low
  | 2 => .jump target
  | 3 => .jumplink target
  | 4 => .branch4 fa fb low
  | 5 => .branch5 fa fb low
  | 6 => .branch6 fa fb low
  | 7 => .branch7 fa fb low
  | 8 => .imm8 fa fb low
  | 9 => .imm9 fa fb low
  | 10 => .imm10 fa fb low
  | 11 => .imm11 fa fb low
  | 12 => .imm12 fa fb low
  | 13 => .imm13 fa fb low
  | 14 => .imm14 fa fb low
  | 15 => .imm15 fa fb low
  | 16 => .imm16 fa fb low
  | 17 => .imm17 fa fb low
  | 18 => .imm18 fa fb low
  | 19 => .imm19 fa fb low
  | 20 => .imm20 fa fb low
  | 21 => .imm21 fa fb low
  | 22 => .imm22 fa fb low
  | 23 => .imm23 fa fb low
  | 24 => .imm24 fa fb low
  | 25 => .imm25 fa fb low
  | 26 => .imm26 fa fb low
  | 27 => .imm27 fa fb low
  | 28 => .imm28 fa fb low
  | 29 => .imm29 fa fb low
  | 30 => .imm30 fa fb low
  | 31 => .imm31 fa fb low
  | 32 => .load32 fa fb low
  | 33 => .load33 fa fb low
  | 34 => .load34 fa fb low
  | 35 => .load35 fa fb low
  | 36 => .load36 fa fb low
  | 37 => .load37 fa fb low
  | 38 => .imm38 fa fb low
  | 39 => .imm39 fa fb low
  | 40 => .store40 fa fb low
  | 41 => .store41 fa fb low
  | 42 => .store42 fa fb low
  | 43 => .store43 fa fb low
  | 44 => .imm44 fa fb low
  | 45 => .imm45 fa fb low
  | 46 => .imm46 fa fb low
  | 47 => .imm47 fa fb low
  | 48 => .imm48 fa fb low
  | 49 => .imm49 fa fb low
  | 50 => .imm50 fa fb low
  | 51 => .imm51 fa fb low
  | 52 => .imm52 fa fb low
  | 53 => .imm53 fa fb low
  | 54 => .imm54 fa fb low
  | 55 => .imm55 fa fb low
  | 56 => .imm56 fa fb low
  | 57 => .imm57 fa fb low
  | 58 => .imm58 fa fb low
  | 59 => .imm59 fa fb low
  | 60 => .imm60 fa fb low
  | 61 => .imm61 fa fb low
  | 62 => .imm62 fa fb low
  | _ => .imm63 fa fb low

/-- The decoder: the instruction a word stands for. It is total (R63, R70). -/
def decodeInstr (p : Params) (w : Word) : Instr :=
  if w = 0#32 then .zero
  else if opField w = 0#6 then decodeSpecial p (faField w) (fbField w) (fcField w) (shField w) (fnField w)
  else decodeOpcode (opField w).toNat (faField w) (fbField w) (lowField w) (targetField w)

/-- A word put together from an opcode, two register fields and sixteen more bits (R55). -/
def iWord (op : BitVec 6) (fa fb : RegIdx) (low : BitVec 16) : Word :=
  BitVec.ofNat 32 (op.toNat * 67108864 + fa.val * 2097152 + fb.val * 65536 + low.toNat)

/-- The low sixteen bits of an opcode-0 word: FC, the unread bits and FN (R55). -/
def specialLow (fc : RegIdx) (sh : BitVec 5) (fn : BitVec 6) : BitVec 16 :=
  BitVec.ofNat 16 (fc.val * 2048 + sh.toNat * 64 + fn.toNat)

/-- A word of opcode 0 (R55). -/
def specialWord (fa fb fc : RegIdx) (sh : BitVec 5) (fn : BitVec 6) : Word :=
  iWord 0#6 fa fb (specialLow fc sh fn)

/-- A word put together from an opcode and twenty-six more bits (R55). -/
def jWord (op : BitVec 6) (target : BitVec 26) : Word :=
  BitVec.ofNat 32 (op.toNat * 67108864 + target.toNat)

/-- The word of an instruction, from the match column of the opcode table (R59, R67). -/
def encode (p : Params) : Instr → Word
  | .zero => 0#32
  | .jr fa fb fc sh => specialWord fa fb fc sh p.functJr
  | .jalr fa fb fc sh => specialWord fa fb fc sh p.functJalr
  | .reg fa fb fc sh fn => specialWord fa fb fc sh fn
  | .imm1 fa fb low => iWord 1#6 fa fb low
  | .jump target => jWord 2#6 target
  | .jumplink target => jWord 3#6 target
  | .branch4 fa fb low => iWord 4#6 fa fb low
  | .branch5 fa fb low => iWord 5#6 fa fb low
  | .branch6 fa fb low => iWord 6#6 fa fb low
  | .branch7 fa fb low => iWord 7#6 fa fb low
  | .imm8 fa fb low => iWord 8#6 fa fb low
  | .imm9 fa fb low => iWord 9#6 fa fb low
  | .imm10 fa fb low => iWord 10#6 fa fb low
  | .imm11 fa fb low => iWord 11#6 fa fb low
  | .imm12 fa fb low => iWord 12#6 fa fb low
  | .imm13 fa fb low => iWord 13#6 fa fb low
  | .imm14 fa fb low => iWord 14#6 fa fb low
  | .imm15 fa fb low => iWord 15#6 fa fb low
  | .imm16 fa fb low => iWord 16#6 fa fb low
  | .imm17 fa fb low => iWord 17#6 fa fb low
  | .imm18 fa fb low => iWord 18#6 fa fb low
  | .imm19 fa fb low => iWord 19#6 fa fb low
  | .imm20 fa fb low => iWord 20#6 fa fb low
  | .imm21 fa fb low => iWord 21#6 fa fb low
  | .imm22 fa fb low => iWord 22#6 fa fb low
  | .imm23 fa fb low => iWord 23#6 fa fb low
  | .imm24 fa fb low => iWord 24#6 fa fb low
  | .imm25 fa fb low => iWord 25#6 fa fb low
  | .imm26 fa fb low => iWord 26#6 fa fb low
  | .imm27 fa fb low => iWord 27#6 fa fb low
  | .imm28 fa fb low => iWord 28#6 fa fb low
  | .imm29 fa fb low => iWord 29#6 fa fb low
  | .imm30 fa fb low => iWord 30#6 fa fb low
  | .imm31 fa fb low => iWord 31#6 fa fb low
  | .load32 fa fb low => iWord 32#6 fa fb low
  | .load33 fa fb low => iWord 33#6 fa fb low
  | .load34 fa fb low => iWord 34#6 fa fb low
  | .load35 fa fb low => iWord 35#6 fa fb low
  | .load36 fa fb low => iWord 36#6 fa fb low
  | .load37 fa fb low => iWord 37#6 fa fb low
  | .imm38 fa fb low => iWord 38#6 fa fb low
  | .imm39 fa fb low => iWord 39#6 fa fb low
  | .store40 fa fb low => iWord 40#6 fa fb low
  | .store41 fa fb low => iWord 41#6 fa fb low
  | .store42 fa fb low => iWord 42#6 fa fb low
  | .store43 fa fb low => iWord 43#6 fa fb low
  | .imm44 fa fb low => iWord 44#6 fa fb low
  | .imm45 fa fb low => iWord 45#6 fa fb low
  | .imm46 fa fb low => iWord 46#6 fa fb low
  | .imm47 fa fb low => iWord 47#6 fa fb low
  | .imm48 fa fb low => iWord 48#6 fa fb low
  | .imm49 fa fb low => iWord 49#6 fa fb low
  | .imm50 fa fb low => iWord 50#6 fa fb low
  | .imm51 fa fb low => iWord 51#6 fa fb low
  | .imm52 fa fb low => iWord 52#6 fa fb low
  | .imm53 fa fb low => iWord 53#6 fa fb low
  | .imm54 fa fb low => iWord 54#6 fa fb low
  | .imm55 fa fb low => iWord 55#6 fa fb low
  | .imm56 fa fb low => iWord 56#6 fa fb low
  | .imm57 fa fb low => iWord 57#6 fa fb low
  | .imm58 fa fb low => iWord 58#6 fa fb low
  | .imm59 fa fb low => iWord 59#6 fa fb low
  | .imm60 fa fb low => iWord 60#6 fa fb low
  | .imm61 fa fb low => iWord 61#6 fa fb low
  | .imm62 fa fb low => iWord 62#6 fa fb low
  | .imm63 fa fb low => iWord 63#6 fa fb low

/-- The opcode of an instruction's row (R59). -/
def Instr.opcode : Instr → BitVec 6
  | .zero => 0#6
  | .jr .. => 0#6
  | .jalr .. => 0#6
  | .reg .. => 0#6
  | .imm1 .. => 1#6
  | .jump .. => 2#6
  | .jumplink .. => 3#6
  | .branch4 .. => 4#6
  | .branch5 .. => 5#6
  | .branch6 .. => 6#6
  | .branch7 .. => 7#6
  | .imm8 .. => 8#6
  | .imm9 .. => 9#6
  | .imm10 .. => 10#6
  | .imm11 .. => 11#6
  | .imm12 .. => 12#6
  | .imm13 .. => 13#6
  | .imm14 .. => 14#6
  | .imm15 .. => 15#6
  | .imm16 .. => 16#6
  | .imm17 .. => 17#6
  | .imm18 .. => 18#6
  | .imm19 .. => 19#6
  | .imm20 .. => 20#6
  | .imm21 .. => 21#6
  | .imm22 .. => 22#6
  | .imm23 .. => 23#6
  | .imm24 .. => 24#6
  | .imm25 .. => 25#6
  | .imm26 .. => 26#6
  | .imm27 .. => 27#6
  | .imm28 .. => 28#6
  | .imm29 .. => 29#6
  | .imm30 .. => 30#6
  | .imm31 .. => 31#6
  | .load32 .. => 32#6
  | .load33 .. => 33#6
  | .load34 .. => 34#6
  | .load35 .. => 35#6
  | .load36 .. => 36#6
  | .load37 .. => 37#6
  | .imm38 .. => 38#6
  | .imm39 .. => 39#6
  | .store40 .. => 40#6
  | .store41 .. => 41#6
  | .store42 .. => 42#6
  | .store43 .. => 43#6
  | .imm44 .. => 44#6
  | .imm45 .. => 45#6
  | .imm46 .. => 46#6
  | .imm47 .. => 47#6
  | .imm48 .. => 48#6
  | .imm49 .. => 49#6
  | .imm50 .. => 50#6
  | .imm51 .. => 51#6
  | .imm52 .. => 52#6
  | .imm53 .. => 53#6
  | .imm54 .. => 54#6
  | .imm55 .. => 55#6
  | .imm56 .. => 56#6
  | .imm57 .. => 57#6
  | .imm58 .. => 58#6
  | .imm59 .. => 59#6
  | .imm60 .. => 60#6
  | .imm61 .. => 61#6
  | .imm62 .. => 62#6
  | .imm63 .. => 63#6

/-- The 32-bit word of `nbits` table bits: the bits from `nbits` on are 0, and a value wider than 32 bits is reduced
modulo 2^32 (R40, D22). -/
def tableWord (nbits w : Nat) : Word := BitVec.ofNat 32 (w % 2 ^ nbits)

/-- The instruction the decoder reads from a row's bits, under the default parameters. It never refuses (R63). -/
def decodeTableWord (nbits w : Nat) : Option Instr :=
  some (decodeInstr Params.default (tableWord nbits w))

end Sys2Proof
end

