-- ==== Sys2Proof/Machine/State.lean ====
section
/-! DEFINITION. The state of one CAVL-PRF instance (10_state.md), its reset value (R29, R190), and the reasons a step can
stop. The block holds no register values, no flags, no control registers and no data memory (R24, R25, R26, R43). -/

namespace Sys2Proof.Machine

/-- The five stages in pipeline order (R9, R10). -/
inductive Stage
  | fetch | decode | execute | memory | writeback
deriving DecidableEq, Repr

/-- The stage codes of R14: 1 = IF, 2 = ID, 3 = EX, 4 = MEM, 5 = WB. -/
def Stage.code : Stage → Nat
  | .fetch => 1
  | .decode => 2
  | .execute => 3
  | .memory => 4
  | .writeback => 5

/-- The decoder's result (R70). -/
structure Operands where
  src1 : Operand
  src2 : Operand
  dest : Operand
deriving DecidableEq, Repr

/-- A pipeline slot (R10). -/
structure Slot where
  word : Word
  pc : Word
  valid : Bool
  src1 : Operand
  src2 : Operand
  dest : Operand
deriving DecidableEq, Repr

/-- The canonical bubble (R12; its `pc` is decision D11, log entry 9). -/
def Slot.bubble : Slot where
  word := 0#32
  pc := 0#32
  valid := false
  src1 := none
  src2 := none
  dest := none

/-- The three operand fields of a slot. -/
def Slot.operands (x : Slot) : Operands := ⟨x.src1, x.src2, x.dest⟩

/-- A scoreboard entry: `none` is code 0 (available), `some c` a producing-stage code (R14). -/
abbrev Entry := Option Stage

/-- The scoreboard: one entry per register index (R14). -/
abbrev Scoreboard := Vector Entry 32

/-- The hazard kinds (R18). -/
inductive HazardKind
  | none | raw | loadUse | control
deriving DecidableEq, Repr

/-- The numbers of the kinds where one is wanted (R18, D19). -/
def HazardKind.code : HazardKind → Nat
  | .none => 0
  | .raw => 1
  | .loadUse => 2
  | .control => 3

/-- The forwarding multiplexer's selection (R18). -/
structure Forward where
  fromStage : Stage
  toStage : Stage
  register : RegIdx
deriving DecidableEq, Repr

/-- The hazard report `HR` (R18). -/
structure HazardReport where
  detected : Bool
  kind : HazardKind
  stallRequired : Bool
  forward : Option Forward
deriving DecidableEq, Repr

/-- The empty report, with which every check starts (R19, R120) and which reset leaves (R29). -/
def HazardReport.empty : HazardReport where
  detected := false
  kind := .none
  stallRequired := false
  forward := .none

/-- The seven counters `M` (R20). Naturals, since no counter can reach the width (R21, D18). -/
structure Metrics where
  totalCycles : Nat
  totalInstructionsCompleted : Nat
  stallCycles : Nat
  forwardCount : Nat
  branchStalls : Nat
  loadUseStalls : Nat
  rawHazardCount : Nat
deriving DecidableEq, Repr

/-- All counters 0 (R29). -/
def Metrics.zero : Metrics := ⟨0, 0, 0, 0, 0, 0, 0⟩

/-- The five stage words of a history entry, in the order IF, ID, EX, MEM, WB (R22). -/
structure StageWords where
  wIF : Word
  wID : Word
  wEX : Word
  wMEM : Word
  wWB : Word
deriving DecidableEq, Repr

/-- A `CycleHistoryEntry` (R22). -/
structure HistoryEntry where
  cycleNumber : Nat
  words : StageWords
  hazardKind : HazardKind
  stallFlag : Bool
  forwardFlag : Bool
deriving DecidableEq, Repr

/-- Everything one instance holds. The last four fields are inputs of a run: nothing in the block writes them
(R17, R51), and they stand here because a step is a function of the state alone. -/
structure State where
  /-- `S[IF]` (R10). -/
  sIF : Slot
  /-- `S[ID]`. -/
  sID : Slot
  /-- `S[EX]`. -/
  sEX : Slot
  /-- `S[MEM]`. -/
  sMEM : Slot
  /-- `S[WB]`. -/
  sWB : Slot
  /-- `SB` (R14). -/
  sb : Scoreboard
  /-- The fetch index `FI` (R16). -/
  fi : Nat
  /-- `HR`, kept from the last cycle's check (R18, R19). -/
  report : HazardReport
  /-- `M` (R20). -/
  metrics : Metrics
  /-- `H`, oldest first (R22). -/
  history : List HistoryEntry
  /-- The terminal-state bit (R23). -/
  done : Bool
  /-- The instruction store `IMem`; `N` is its length (R17, R40). -/
  imem : List Word
  /-- `cfg.fwd`, forwarding enabled (R17). -/
  fwd : Bool
  /-- `cfg.bp`, branch prediction enabled (R17). -/
  bp : Bool
  /-- The implementation parameters the spec leaves open (R6). -/
  params : Params
deriving DecidableEq, Repr

/-- The block raises no exception and no situation of it is a fault (R170, 93_implementation_defined.md section 1), so
there is no reason to fault: the type is empty, and no step answers `fault`. -/
inductive Fault
deriving DecidableEq, Repr

/-- Why a step has no meaning. -/
inductive Refusal
  /-- Kept for the host's form: an instruction without a meaning would be rejected so. No arm of `exec` raises it.
  Safe. -/
  | notModelled (mnemonic : String)
  /-- Raised by the hazard check when forwarding is enabled and a source's scoreboard entry is 1 (IF) or 2 (ID): the
  source lists no forwarding source for these codes and R128 asks a model to refuse (D7, U1). Unreachable from reset.
  Safe. -/
  | noForwardingSource
  /-- Raised by `step` when the operand fields of `S[ID]` are not the decode of its word: U4 of
  93_implementation_defined.md gives that state no behaviour. Unreachable from reset. Safe. -/
  | operandsNotDecoded
deriving DecidableEq, Repr

/-- The state after `reset(IMem, N, fwd, bp)` (R29, R190), for any implementation parameters. -/
def State.resetWith (p : Params) (imem : List Word) (fwd bp : Bool) : State where
  sIF := .bubble
  sID := .bubble
  sEX := .bubble
  sMEM := .bubble
  sWB := .bubble
  sb := Vector.replicate 32 none
  fi := 0
  report := .empty
  metrics := .zero
  history := []
  done := false
  imem := imem
  fwd := fwd
  bp := bp
  params := p

/-- The machine right after reset (R29), with the default parameters, no supplied program and both configuration bits
off. The four inputs are supplied with reset and have no value of their own in the spec (log entry 2, DESIGN CHOICE). -/
def State.reset : State := State.resetWith Params.default [] false false

end Sys2Proof.Machine
end

