-- ==== Sys2Proof/Machine/Operands.lean ====
section
/-! DEFINITION. Which registers an instruction names: the operand triple of each decode class (R70 to R80), the triple
of each instruction, and `decode` of R70. No immediate, address or target is ever formed (R58), so these are all the
operand forms there are. -/

namespace Sys2Proof.Machine

/-- ZERO: no operands (R71). -/
def zeroOperands : Operands := ⟨none, none, none⟩
/-- REG: sources FA and FB, destination FC (R72). -/
def regOperands (fa fb fc : RegIdx) : Operands := ⟨some fa, some fb, some fc⟩
/-- JR: source FA (R73). -/
def jrOperands (fa : RegIdx) : Operands := ⟨some fa, none, none⟩
/-- JALR: source FA, destination FC (R74: the destination is the field, not the constant 31). -/
def jalrOperands (fa fc : RegIdx) : Operands := ⟨some fa, none, some fc⟩
/-- LOAD: source FA (the base), destination FB (R75). -/
def loadOperands (fa fb : RegIdx) : Operands := ⟨some fa, none, some fb⟩
/-- STORE: sources FA and FB, no destination (R76). -/
def storeOperands (fa fb : RegIdx) : Operands := ⟨some fa, some fb, none⟩
/-- BRANCH: sources FA and FB, no destination (R77). -/
def branchOperands (fa fb : RegIdx) : Operands := ⟨some fa, some fb, none⟩
/-- JUMP: no operands (R78). -/
def jumpOperands : Operands := ⟨none, none, none⟩
/-- JUMPLINK: destination `LINK_REG` (R79). -/
def jumplinkOperands : Operands := ⟨none, none, some linkReg⟩
/-- IMM: source FA, destination FB (R80). -/
def immOperands (fa fb : RegIdx) : Operands := ⟨some fa, none, some fb⟩

/-- The triple an instruction's class rule gives it. -/
def operandsOf : Instr → Operands
  | .zero => zeroOperands
  | .jr fa _ _ _ => jrOperands fa
  | .jalr fa _ fc _ => jalrOperands fa fc
  | .reg fa fb fc _ _ => regOperands fa fb fc
  | .imm1 fa fb _ => immOperands fa fb
  | .jump _ => jumpOperands
  | .jumplink _ => jumplinkOperands
  | .branch4 fa fb _ => branchOperands fa fb
  | .branch5 fa fb _ => branchOperands fa fb
  | .branch6 fa fb _ => branchOperands fa fb
  | .branch7 fa fb _ => branchOperands fa fb
  | .imm8 fa fb _ => immOperands fa fb
  | .imm9 fa fb _ => immOperands fa fb
  | .imm10 fa fb _ => immOperands fa fb
  | .imm11 fa fb _ => immOperands fa fb
  | .imm12 fa fb _ => immOperands fa fb
  | .imm13 fa fb _ => immOperands fa fb
  | .imm14 fa fb _ => immOperands fa fb
  | .imm15 fa fb _ => immOperands fa fb
  | .imm16 fa fb _ => immOperands fa fb
  | .imm17 fa fb _ => immOperands fa fb
  | .imm18 fa fb _ => immOperands fa fb
  | .imm19 fa fb _ => immOperands fa fb
  | .imm20 fa fb _ => immOperands fa fb
  | .imm21 fa fb _ => immOperands fa fb
  | .imm22 fa fb _ => immOperands fa fb
  | .imm23 fa fb _ => immOperands fa fb
  | .imm24 fa fb _ => immOperands fa fb
  | .imm25 fa fb _ => immOperands fa fb
  | .imm26 fa fb _ => immOperands fa fb
  | .imm27 fa fb _ => immOperands fa fb
  | .imm28 fa fb _ => immOperands fa fb
  | .imm29 fa fb _ => immOperands fa fb
  | .imm30 fa fb _ => immOperands fa fb
  | .imm31 fa fb _ => immOperands fa fb
  | .load32 fa fb _ => loadOperands fa fb
  | .load33 fa fb _ => loadOperands fa fb
  | .load34 fa fb _ => loadOperands fa fb
  | .load35 fa fb _ => loadOperands fa fb
  | .load36 fa fb _ => loadOperands fa fb
  | .load37 fa fb _ => loadOperands fa fb
  | .imm38 fa fb _ => immOperands fa fb
  | .imm39 fa fb _ => immOperands fa fb
  | .store40 fa fb _ => storeOperands fa fb
  | .store41 fa fb _ => storeOperands fa fb
  | .store42 fa fb _ => storeOperands fa fb
  | .store43 fa fb _ => storeOperands fa fb
  | .imm44 fa fb _ => immOperands fa fb
  | .imm45 fa fb _ => immOperands fa fb
  | .imm46 fa fb _ => immOperands fa fb
  | .imm47 fa fb _ => immOperands fa fb
  | .imm48 fa fb _ => immOperands fa fb
  | .imm49 fa fb _ => immOperands fa fb
  | .imm50 fa fb _ => immOperands fa fb
  | .imm51 fa fb _ => immOperands fa fb
  | .imm52 fa fb _ => immOperands fa fb
  | .imm53 fa fb _ => immOperands fa fb
  | .imm54 fa fb _ => immOperands fa fb
  | .imm55 fa fb _ => immOperands fa fb
  | .imm56 fa fb _ => immOperands fa fb
  | .imm57 fa fb _ => immOperands fa fb
  | .imm58 fa fb _ => immOperands fa fb
  | .imm59 fa fb _ => immOperands fa fb
  | .imm60 fa fb _ => immOperands fa fb
  | .imm61 fa fb _ => immOperands fa fb
  | .imm62 fa fb _ => immOperands fa fb
  | .imm63 fa fb _ => immOperands fa fb

/-- `decode` of R70: the triple of a word. It reads the word and the funct numbers only. -/
def decode (p : Params) (w : Word) : Operands := operandsOf (decodeInstr p w)

end Sys2Proof.Machine
end

