-- ==== Sys2Proof/Machine/Flags.lean ====
section
/-! DEFINITION. The class predicates (R60, R61), the scoreboard's read and write, and the hazard detector with its
forwarding multiplexer (R120 to R131): everything that computes a flag of the hazard report. -/

namespace Sys2Proof.Machine

/-- `is_load` (R60): the opcode is 32 to 37. -/
def isLoad (w : Word) : Bool := 32 ≤ (opField w).toNat && (opField w).toNat ≤ 37

/-- `is_control` (R61): the opcode is 2 to 7, or the class is JR or JALR and `CONTROL_INCLUDES_JR` is set. -/
def isControl (p : Params) (w : Word) : Bool :=
  (2 ≤ (opField w).toNat && (opField w).toNat ≤ 7)
    || (p.controlIncludesJr && ((decodeInstr p w).cls == .jr || (decodeInstr p w).cls == .jalr))

/-- The control column of the opcode table, by class (R61, R67): what each meaning passes to its cycle. -/
def controlOf (p : Params) (i : Instr) : Bool :=
  match i.cls with
  | .jump | .jumplink | .branch => true
  | .jr | .jalr => p.controlIncludesJr
  | .zero | .reg | .load | .store | .imm => false

/-- `SB[r]` (R14). -/
def Scoreboard.read (sb : Scoreboard) (r : RegIdx) : Entry := sb.get r

/-- `SB[r] <- e` (R14). -/
def Scoreboard.write (sb : Scoreboard) (r : RegIdx) (e : Entry) : Scoreboard := sb.set r.val e r.isLt

/-- What the check has found so far: the report, the counters, and `data_hit` of R120. -/
structure Check where
  report : HazardReport
  metrics : Metrics
  dataHit : Bool
deriving DecidableEq, Repr

/-- A data hazard was found on an operand (R121, R123). -/
def Check.hit (c : Check) : Check :=
  { c with report.detected := true, dataHit := true }

/-- The operand is a load-use hazard (R125). -/
def Check.loadUse (c : Check) : Check :=
  { c with report.stallRequired := true, report.kind := .loadUse,
           metrics.loadUseStalls := c.metrics.loadUseStalls + 1 }

/-- The operand is forwarded from the stage its entry names (R126). -/
def Check.forward (c : Check) (st : Stage) (r : RegIdx) : Check :=
  { c with report.forward := some ⟨st, .decode, r⟩, report.kind := .raw,
           metrics.forwardCount := c.metrics.forwardCount + 1 }

/-- The operand stalls because forwarding is disabled (R127). -/
def Check.rawStall (c : Check) : Check :=
  { c with report.stallRequired := true, report.kind := .raw }

/-- The multiplexer's select (R126, R128): codes 3, 4 and 5 name a forwarding source, codes 1 and 2 name none. -/
def forwardsFrom : Stage → Bool
  | .fetch | .decode => false
  | .execute | .memory | .writeback => true

/-- The check of an operand whose entry names the producing stage `st` (R125 before R126 before R127). `none` where
the spec gives no meaning (R128). -/
def checkBusy (fwd exLoad : Bool) (st : Stage) (r : RegIdx) (c : Check) : Option Check :=
  if st = .execute ∧ exLoad = true then some c.hit.loadUse
  else if fwd then
    if forwardsFrom st then some (c.hit.forward st r) else none
  else some c.hit.rawStall

/-- The check of one operand field (R122, R123). -/
def checkOperand (fwd exLoad : Bool) (sb : Scoreboard) (o : Operand) (c : Check) : Option Check :=
  match o with
  | none => some c
  | some r =>
    if r = zeroReg then some c
    else match sb.read r with
      | none => some c
      | some st => checkBusy fwd exLoad st r c

/-- `raw_hazard_count` moves once if either operand hazards (R124). -/
def Check.countRaw (c : Check) : Check :=
  if c.dataHit then { c with metrics.rawHazardCount := c.metrics.rawHazardCount + 1 } else c

/-- The control check, made after both operands and over their result (R129, R130). -/
def Check.control (c : Check) (control bp : Bool) : Check :=
  if control then
    { c with report.detected := true, report.kind := .control,
             report.stallRequired := c.report.stallRequired || !bp,
             metrics.branchStalls := c.metrics.branchStalls + 1 }
  else c

/-- `detect_hazards` (R120): `src1` completely, then `src2` (R131), then the control check. `exWord` is `S[EX].word`. -/
def detectHazards (fwd bp : Bool) (sb : Scoreboard) (exWord : Word) (m : Metrics) (ops : Operands) (control : Bool) :
    Option Check :=
  match checkOperand fwd (isLoad exWord) sb ops.src1 ⟨.empty, m, false⟩ with
  | none => none
  | some c1 =>
    match checkOperand fwd (isLoad exWord) sb ops.src2 c1 with
    | none => none
    | some c2 => some (c2.countRaw.control control bp)

end Sys2Proof.Machine
end

