-- ==== Sys2Proof/Machine/Ops.lean ====
section
/-! DEFINITION. The steps of a cycle as operations on the state, in the order R90 applies them, and the cycle itself.
There is no operation that takes an exception and none that returns from one: the block raises none and has no trap
(R170, R175). -/

namespace Sys2Proof.Machine

/-- The program-counter label of the word at an index (R16). -/
def pcLabel (p : Params) (index : Nat) : Word := BitVec.ofNat 32 (p.pcBase + p.pcStride * index)

/-- A word as it enters `S[IF]` (R13, R98): valid whatever it is, and not decoded yet. -/
def Slot.fetched (w pc : Word) : Slot := ⟨w, pc, true, none, none, none⟩

/-- A slot as it enters ID: its operand fields become the decode of its word (R96). -/
def Slot.decoded (p : Params) (x : Slot) : Slot :=
  { x with src1 := (decode p x.word).src1, src2 := (decode p x.word).src2, dest := (decode p x.word).dest }

/-- Clear the destination's entry (R134). -/
def Scoreboard.clear (sb : Scoreboard) (dest : Operand) : Scoreboard :=
  match dest with
  | none => sb
  | some r => sb.write r none

/-- Mark the destination busy with code 3; register 0 is never marked (R133). -/
def Scoreboard.mark (sb : Scoreboard) (dest : Operand) : Scoreboard :=
  match dest with
  | none => sb
  | some r => if r = zeroReg then sb else sb.write r (some .execute)

/-- The cycle count (R91). -/
def countCycle (s : State) : State :=
  { s with metrics.totalCycles := s.metrics.totalCycles + 1 }

/-- Step 1, Writeback (R92): count and clear for a valid `S[WB]`, then `S[WB] <- S[MEM]`. -/
def writebackStep (s : State) : State :=
  if s.sWB.valid then
    { s with metrics.totalInstructionsCompleted := s.metrics.totalInstructionsCompleted + 1,
             sb := s.sb.clear s.sWB.dest, sWB := s.sMEM }
  else { s with sWB := s.sMEM }

/-- Step 2, Memory (R93): `S[MEM] <- S[EX]`, in every cycle. -/
def memoryStep (s : State) : State := { s with sMEM := s.sEX }

/-- What steps 1 and 2 and the cycle count leave for the hazard check. -/
def drainStages (s : State) : State := memoryStep (writebackStep (countCycle s))

/-- Step 3 (R94): the hazard check of an instruction standing in ID, on a state that `drainStages` has left. -/
def hazardCheck (ops : Operands) (control : Bool) (s : State) : Option Check :=
  detectHazards s.fwd s.bp s.sb s.sEX.word s.metrics ops control

/-- Step 3's writes: the report and the counters. -/
def withCheck (c : Check) (s : State) : State := { s with report := c.report, metrics := c.metrics }

/-- Step 4, Execute (R95): a bubble on a stall; else the instruction enters EX and marks its destination. -/
def executeStep (dest : Operand) (s : State) : State :=
  if s.report.stallRequired then { s with sEX := .bubble }
  else { s with sEX := s.sID, sb := s.sb.mark dest }

/-- Step 5, Decode: R96, and on a stall R96 or R97 as `STALL_ID_POLICY` says. -/
def decodeStep (s : State) : State :=
  if s.report.stallRequired then
    match s.params.stallIdPolicy with
    | .bubble => { s with sID := .bubble }
    | .hold => s
  else { s with sID := s.sIF.decoded s.params }

/-- Step 6, Fetch (R98): nothing on a stall; else the next word, or a bubble where none is left. -/
def fetchStep (s : State) : State :=
  if s.report.stallRequired then s
  else match s.imem[s.fi]? with
    | some w => { s with sIF := .fetched w (pcLabel s.params s.fi), fi := s.fi + 1 }
    | none => { s with sIF := .bubble }

/-- The stall count (R99). -/
def countStall (s : State) : State :=
  if s.report.stallRequired then { s with metrics.stallCycles := s.metrics.stallCycles + 1 } else s

/-- The entry the recorder forms at the end of a cycle (R157). -/
def historyEntry (s : State) : HistoryEntry where
  cycleNumber := s.metrics.totalCycles
  words := ⟨s.sIF.word, s.sID.word, s.sEX.word, s.sMEM.word, s.sWB.word⟩
  hazardKind := s.report.kind
  stallFlag := s.report.stallRequired
  forwardFlag := s.report.forward.isSome

/-- The history append, a hard ceiling (R100, R158). -/
def recordHistory (s : State) : State :=
  if s.history.length < historyCap then { s with history := s.history ++ [historyEntry s] } else s

/-- The pipeline has drained (R101). -/
def drained (s : State) : Bool :=
  s.fi == s.imem.length && !s.sIF.valid && !s.sID.valid && !s.sEX.valid && !s.sMEM.valid && !s.sWB.valid

/-- The termination check with the cycle cap (R101, R102). -/
def terminationCheck (s : State) : State :=
  if drained s || s.metrics.totalCycles == cycleCap then { s with done := true } else s

/-- What follows the check: steps 4 to 6, the stall count, the history append, the termination check (R90). -/
def advance (dest : Operand) (s : State) : State :=
  terminationCheck (recordHistory (countStall (fetchStep (decodeStep (executeStep dest s)))))

/-- One cycle (R90) in which the instruction standing in ID has the operands `ops` and is control-class or not.
Refused only where R128 says so. -/
def cycle (ops : Operands) (control : Bool) (s : State) : Host.Outcome State Fault Refusal :=
  match hazardCheck ops control (drainStages s) with
  | none => .refused .noForwardingSource
  | some c => .next (advance ops.dest (withCheck c (drainStages s)))

/-- The instruction standing in ID, which a cycle runs. A bubble's word decodes to ZERO (R71). -/
def standing (s : State) : Instr := decodeInstr s.params s.sID.word

/-- The operand fields of `S[ID]` are the decode of its word, as R13 has it in every reachable state. -/
def operandsDecoded (s : State) : Bool := s.sID.operands == operandsOf (standing s)

/-- The state with a word standing in ID as steps 6 and 5 would have brought it there, in a run that is not over. -/
def placeInID (w : Word) (s : State) : State :=
  { s with sID := (Slot.fetched w s.sID.pc).decoded s.params, done := false }

end Sys2Proof.Machine
end

