-- ==== Sys2Proof/Machine/Branch.lean ====
section
/-! DEFINITION. The meanings of the conditional branch class (R77): two sources FA and FB, no destination, a control hazard (R61, R129).
A meaning is the cycle in which the instruction stands in ID (R90, log entry 1). -/

namespace Sys2Proof.Machine

/-- `BRANCH_4` (R77; OP = 4). -/
def execBranch4 (fa fb : RegIdx) (s : State) : Host.Outcome State Fault Refusal :=
  cycle (branchOperands fa fb) true s

/-- `BRANCH_5` (R77; OP = 5). -/
def execBranch5 (fa fb : RegIdx) (s : State) : Host.Outcome State Fault Refusal :=
  cycle (branchOperands fa fb) true s

/-- `BRANCH_6` (R77; OP = 6). -/
def execBranch6 (fa fb : RegIdx) (s : State) : Host.Outcome State Fault Refusal :=
  cycle (branchOperands fa fb) true s

/-- `BRANCH_7` (R77; OP = 7). -/
def execBranch7 (fa fb : RegIdx) (s : State) : Host.Outcome State Fault Refusal :=
  cycle (branchOperands fa fb) true s

end Sys2Proof.Machine
end

