-- ==== Sys2Proof/Machine/Imm.lean ====
section
/-! DEFINITION. The meanings of the immediate class and every opcode no other class takes (R80): one source FA, destination FB, no control hazard.
A meaning is the cycle in which the instruction stands in ID (R90, log entry 1). -/

namespace Sys2Proof.Machine

/-- `IMM_1` (R80; OP = 1). -/
def execImm1 (fa fb : RegIdx) (s : State) : Host.Outcome State Fault Refusal :=
  cycle (immOperands fa fb) false s

/-- `IMM_8` (R80; OP = 8). -/
def execImm8 (fa fb : RegIdx) (s : State) : Host.Outcome State Fault Refusal :=
  cycle (immOperands fa fb) false s

/-- `IMM_9` (R80; OP = 9). -/
def execImm9 (fa fb : RegIdx) (s : State) : Host.Outcome State Fault Refusal :=
  cycle (immOperands fa fb) false s

/-- `IMM_10` (R80; OP = 10). -/
def execImm10 (fa fb : RegIdx) (s : State) : Host.Outcome State Fault Refusal :=
  cycle (immOperands fa fb) false s

/-- `IMM_11` (R80; OP = 11). -/
def execImm11 (fa fb : RegIdx) (s : State) : Host.Outcome State Fault Refusal :=
  cycle (immOperands fa fb) false s

/-- `IMM_12` (R80; OP = 12). -/
def execImm12 (fa fb : RegIdx) (s : State) : Host.Outcome State Fault Refusal :=
  cycle (immOperands fa fb) false s

/-- `IMM_13` (R80; OP = 13). -/
def execImm13 (fa fb : RegIdx) (s : State) : Host.Outcome State Fault Refusal :=
  cycle (immOperands fa fb) false s

/-- `IMM_14` (R80; OP = 14). -/
def execImm14 (fa fb : RegIdx) (s : State) : Host.Outcome State Fault Refusal :=
  cycle (immOperands fa fb) false s

/-- `IMM_15` (R80; OP = 15). -/
def execImm15 (fa fb : RegIdx) (s : State) : Host.Outcome State Fault Refusal :=
  cycle (immOperands fa fb) false s

/-- `IMM_16` (R80; OP = 16). -/
def execImm16 (fa fb : RegIdx) (s : State) : Host.Outcome State Fault Refusal :=
  cycle (immOperands fa fb) false s

/-- `IMM_17` (R80; OP = 17). -/
def execImm17 (fa fb : RegIdx) (s : State) : Host.Outcome State Fault Refusal :=
  cycle (immOperands fa fb) false s

/-- `IMM_18` (R80; OP = 18). -/
def execImm18 (fa fb : RegIdx) (s : State) : Host.Outcome State Fault Refusal :=
  cycle (immOperands fa fb) false s

/-- `IMM_19` (R80; OP = 19). -/
def execImm19 (fa fb : RegIdx) (s : State) : Host.Outcome State Fault Refusal :=
  cycle (immOperands fa fb) false s

/-- `IMM_20` (R80; OP = 20). -/
def execImm20 (fa fb : RegIdx) (s : State) : Host.Outcome State Fault Refusal :=
  cycle (immOperands fa fb) false s

/-- `IMM_21` (R80; OP = 21). -/
def execImm21 (fa fb : RegIdx) (s : State) : Host.Outcome State Fault Refusal :=
  cycle (immOperands fa fb) false s

/-- `IMM_22` (R80; OP = 22). -/
def execImm22 (fa fb : RegIdx) (s : State) : Host.Outcome State Fault Refusal :=
  cycle (immOperands fa fb) false s

/-- `IMM_23` (R80; OP = 23). -/
def execImm23 (fa fb : RegIdx) (s : State) : Host.Outcome State Fault Refusal :=
  cycle (immOperands fa fb) false s

/-- `IMM_24` (R80; OP = 24). -/
def execImm24 (fa fb : RegIdx) (s : State) : Host.Outcome State Fault Refusal :=
  cycle (immOperands fa fb) false s

/-- `IMM_25` (R80; OP = 25). -/
def execImm25 (fa fb : RegIdx) (s : State) : Host.Outcome State Fault Refusal :=
  cycle (immOperands fa fb) false s

/-- `IMM_26` (R80; OP = 26). -/
def execImm26 (fa fb : RegIdx) (s : State) : Host.Outcome State Fault Refusal :=
  cycle (immOperands fa fb) false s

/-- `IMM_27` (R80; OP = 27). -/
def execImm27 (fa fb : RegIdx) (s : State) : Host.Outcome State Fault Refusal :=
  cycle (immOperands fa fb) false s

/-- `IMM_28` (R80; OP = 28). -/
def execImm28 (fa fb : RegIdx) (s : State) : Host.Outcome State Fault Refusal :=
  cycle (immOperands fa fb) false s

/-- `IMM_29` (R80; OP = 29). -/
def execImm29 (fa fb : RegIdx) (s : State) : Host.Outcome State Fault Refusal :=
  cycle (immOperands fa fb) false s

/-- `IMM_30` (R80; OP = 30). -/
def execImm30 (fa fb : RegIdx) (s : State) : Host.Outcome State Fault Refusal :=
  cycle (immOperands fa fb) false s

/-- `IMM_31` (R80; OP = 31). -/
def execImm31 (fa fb : RegIdx) (s : State) : Host.Outcome State Fault Refusal :=
  cycle (immOperands fa fb) false s

/-- `IMM_38` (R80; OP = 38). -/
def execImm38 (fa fb : RegIdx) (s : State) : Host.Outcome State Fault Refusal :=
  cycle (immOperands fa fb) false s

/-- `IMM_39` (R80; OP = 39). -/
def execImm39 (fa fb : RegIdx) (s : State) : Host.Outcome State Fault Refusal :=
  cycle (immOperands fa fb) false s

/-- `IMM_44` (R80; OP = 44). -/
def execImm44 (fa fb : RegIdx) (s : State) : Host.Outcome State Fault Refusal :=
  cycle (immOperands fa fb) false s

/-- `IMM_45` (R80; OP = 45). -/
def execImm45 (fa fb : RegIdx) (s : State) : Host.Outcome State Fault Refusal :=
  cycle (immOperands fa fb) false s

/-- `IMM_46` (R80; OP = 46). -/
def execImm46 (fa fb : RegIdx) (s : State) : Host.Outcome State Fault Refusal :=
  cycle (immOperands fa fb) false s

/-- `IMM_47` (R80; OP = 47). -/
def execImm47 (fa fb : RegIdx) (s : State) : Host.Outcome State Fault Refusal :=
  cycle (immOperands fa fb) false s

/-- `IMM_48` (R80; OP = 48). -/
def execImm48 (fa fb : RegIdx) (s : State) : Host.Outcome State Fault Refusal :=
  cycle (immOperands fa fb) false s

/-- `IMM_49` (R80; OP = 49). -/
def execImm49 (fa fb : RegIdx) (s : State) : Host.Outcome State Fault Refusal :=
  cycle (immOperands fa fb) false s

/-- `IMM_50` (R80; OP = 50). -/
def execImm50 (fa fb : RegIdx) (s : State) : Host.Outcome State Fault Refusal :=
  cycle (immOperands fa fb) false s

/-- `IMM_51` (R80; OP = 51). -/
def execImm51 (fa fb : RegIdx) (s : State) : Host.Outcome State Fault Refusal :=
  cycle (immOperands fa fb) false s

/-- `IMM_52` (R80; OP = 52). -/
def execImm52 (fa fb : RegIdx) (s : State) : Host.Outcome State Fault Refusal :=
  cycle (immOperands fa fb) false s

/-- `IMM_53` (R80; OP = 53). -/
def execImm53 (fa fb : RegIdx) (s : State) : Host.Outcome State Fault Refusal :=
  cycle (immOperands fa fb) false s

/-- `IMM_54` (R80; OP = 54). -/
def execImm54 (fa fb : RegIdx) (s : State) : Host.Outcome State Fault Refusal :=
  cycle (immOperands fa fb) false s

/-- `IMM_55` (R80; OP = 55). -/
def execImm55 (fa fb : RegIdx) (s : State) : Host.Outcome State Fault Refusal :=
  cycle (immOperands fa fb) false s

/-- `IMM_56` (R80; OP = 56). -/
def execImm56 (fa fb : RegIdx) (s : State) : Host.Outcome State Fault Refusal :=
  cycle (immOperands fa fb) false s

/-- `IMM_57` (R80; OP = 57). -/
def execImm57 (fa fb : RegIdx) (s : State) : Host.Outcome State Fault Refusal :=
  cycle (immOperands fa fb) false s

/-- `IMM_58` (R80; OP = 58). -/
def execImm58 (fa fb : RegIdx) (s : State) : Host.Outcome State Fault Refusal :=
  cycle (immOperands fa fb) false s

/-- `IMM_59` (R80; OP = 59). -/
def execImm59 (fa fb : RegIdx) (s : State) : Host.Outcome State Fault Refusal :=
  cycle (immOperands fa fb) false s

/-- `IMM_60` (R80; OP = 60). -/
def execImm60 (fa fb : RegIdx) (s : State) : Host.Outcome State Fault Refusal :=
  cycle (immOperands fa fb) false s

/-- `IMM_61` (R80; OP = 61). -/
def execImm61 (fa fb : RegIdx) (s : State) : Host.Outcome State Fault Refusal :=
  cycle (immOperands fa fb) false s

/-- `IMM_62` (R80; OP = 62). -/
def execImm62 (fa fb : RegIdx) (s : State) : Host.Outcome State Fault Refusal :=
  cycle (immOperands fa fb) false s

/-- `IMM_63` (R80; OP = 63). -/
def execImm63 (fa fb : RegIdx) (s : State) : Host.Outcome State Fault Refusal :=
  cycle (immOperands fa fb) false s

end Sys2Proof.Machine
end

