-- ==== Sys2Proof/Machine/Jump.lean ====
section
/-! DEFINITION. The meanings of the plain jump (R78: no operands, a control hazard) and the link-jump (R79: destination 31, a control hazard).
A meaning is the cycle in which the instruction stands in ID (R90, log entry 1). -/

namespace Sys2Proof.Machine

/-- `JUMP` (R78; OP = 2). -/
def execJump (s : State) : Host.Outcome State Fault Refusal :=
  cycle jumpOperands true s

/-- `JUMPLINK` (R79; OP = 3). -/
def execJumplink (s : State) : Host.Outcome State Fault Refusal :=
  cycle jumplinkOperands true s

end Sys2Proof.Machine
end

