-- ==== Sys2Proof/Machine/Load.lean ====
section
/-! DEFINITION. The meanings of the load class (R75): one source FA (the base), destination FB, no control hazard. What a load does beyond an IMM word it does from EX, through `isLoad` (R60, R62, R125).
A meaning is the cycle in which the instruction stands in ID (R90, log entry 1). -/

namespace Sys2Proof.Machine

/-- `LOAD_32` (R75; OP = 32). -/
def execLoad32 (fa fb : RegIdx) (s : State) : Host.Outcome State Fault Refusal :=
  cycle (loadOperands fa fb) false s

/-- `LOAD_33` (R75; OP = 33). -/
def execLoad33 (fa fb : RegIdx) (s : State) : Host.Outcome State Fault Refusal :=
  cycle (loadOperands fa fb) false s

/-- `LOAD_34` (R75; OP = 34). -/
def execLoad34 (fa fb : RegIdx) (s : State) : Host.Outcome State Fault Refusal :=
  cycle (loadOperands fa fb) false s

/-- `LOAD_35` (R75; OP = 35). -/
def execLoad35 (fa fb : RegIdx) (s : State) : Host.Outcome State Fault Refusal :=
  cycle (loadOperands fa fb) false s

/-- `LOAD_36` (R75; OP = 36). -/
def execLoad36 (fa fb : RegIdx) (s : State) : Host.Outcome State Fault Refusal :=
  cycle (loadOperands fa fb) false s

/-- `LOAD_37` (R75; OP = 37). -/
def execLoad37 (fa fb : RegIdx) (s : State) : Host.Outcome State Fault Refusal :=
  cycle (loadOperands fa fb) false s

end Sys2Proof.Machine
end

