-- ==== Sys2Proof/Machine/Special.lean ====
section
/-! DEFINITION. The meanings of the four classes of opcode 0: ZERO (R71), REG (R72), JR (R73) and JALR (R74).
A meaning is the cycle in which the instruction stands in ID (R90, log entry 1). -/

namespace Sys2Proof.Machine

/-- `ZERO` (R71; the all-zero word). -/
def execZero (s : State) : Host.Outcome State Fault Refusal :=
  cycle zeroOperands false s

/-- `JR` (R73; FN = FUNCT_JR). -/
def execJr (fa : RegIdx) (s : State) : Host.Outcome State Fault Refusal :=
  cycle (jrOperands fa) s.params.controlIncludesJr s

/-- `JALR` (R74; FN = FUNCT_JALR). -/
def execJalr (fa fc : RegIdx) (s : State) : Host.Outcome State Fault Refusal :=
  cycle (jalrOperands fa fc) s.params.controlIncludesJr s

/-- `REG` (R72; any other FN). -/
def execReg (fa fb fc : RegIdx) (s : State) : Host.Outcome State Fault Refusal :=
  cycle (regOperands fa fb fc) false s

end Sys2Proof.Machine
end

