-- ==== Sys2Proof/Machine/Store.lean ====
section
/-! DEFINITION. The meanings of the store class (R76): two sources FA and FB, no destination, no control hazard.
A meaning is the cycle in which the instruction stands in ID (R90, log entry 1). -/

namespace Sys2Proof.Machine

/-- `STORE_40` (R76; OP = 40). -/
def execStore40 (fa fb : RegIdx) (s : State) : Host.Outcome State Fault Refusal :=
  cycle (storeOperands fa fb) false s

/-- `STORE_41` (R76; OP = 41). -/
def execStore41 (fa fb : RegIdx) (s : State) : Host.Outcome State Fault Refusal :=
  cycle (storeOperands fa fb) false s

/-- `STORE_42` (R76; OP = 42). -/
def execStore42 (fa fb : RegIdx) (s : State) : Host.Outcome State Fault Refusal :=
  cycle (storeOperands fa fb) false s

/-- `STORE_43` (R76; OP = 43). -/
def execStore43 (fa fb : RegIdx) (s : State) : Host.Outcome State Fault Refusal :=
  cycle (storeOperands fa fb) false s

end Sys2Proof.Machine
end

