-- ==== Sys2Proof/Machine/Dispatch.lean ====
section
/-! DEFINITION. One arm per constructor of Instr: the cycle in which that instruction stands in ID. -/

namespace Sys2Proof.Machine

def exec (i : Instr) (s : State) : Host.Outcome State Fault Refusal :=
  match i with
  | .zero => Sys2Proof.Machine.execZero s
  | .jr fa _ _ _ => Sys2Proof.Machine.execJr fa s
  | .jalr fa _ fc _ => Sys2Proof.Machine.execJalr fa fc s
  | .reg fa fb fc _ _ => Sys2Proof.Machine.execReg fa fb fc s
  | .imm1 fa fb _ => Sys2Proof.Machine.execImm1 fa fb s
  | .jump _ => Sys2Proof.Machine.execJump s
  | .jumplink _ => Sys2Proof.Machine.execJumplink s
  | .branch4 fa fb _ => Sys2Proof.Machine.execBranch4 fa fb s
  | .branch5 fa fb _ => Sys2Proof.Machine.execBranch5 fa fb s
  | .branch6 fa fb _ => Sys2Proof.Machine.execBranch6 fa fb s
  | .branch7 fa fb _ => Sys2Proof.Machine.execBranch7 fa fb s
  | .imm8 fa fb _ => Sys2Proof.Machine.execImm8 fa fb s
  | .imm9 fa fb _ => Sys2Proof.Machine.execImm9 fa fb s
  | .imm10 fa fb _ => Sys2Proof.Machine.execImm10 fa fb s
  | .imm11 fa fb _ => Sys2Proof.Machine.execImm11 fa fb s
  | .imm12 fa fb _ => Sys2Proof.Machine.execImm12 fa fb s
  | .imm13 fa fb _ => Sys2Proof.Machine.execImm13 fa fb s
  | .imm14 fa fb _ => Sys2Proof.Machine.execImm14 fa fb s
  | .imm15 fa fb _ => Sys2Proof.Machine.execImm15 fa fb s
  | .imm16 fa fb _ => Sys2Proof.Machine.execImm16 fa fb s
  | .imm17 fa fb _ => Sys2Proof.Machine.execImm17 fa fb s
  | .imm18 fa fb _ => Sys2Proof.Machine.execImm18 fa fb s
  | .imm19 fa fb _ => Sys2Proof.Machine.execImm19 fa fb s
  | .imm20 fa fb _ => Sys2Proof.Machine.execImm20 fa fb s
  | .imm21 fa fb _ => Sys2Proof.Machine.execImm21 fa fb s
  | .imm22 fa fb _ => Sys2Proof.Machine.execImm22 fa fb s
  | .imm23 fa fb _ => Sys2Proof.Machine.execImm23 fa fb s
  | .imm24 fa fb _ => Sys2Proof.Machine.execImm24 fa fb s
  | .imm25 fa fb _ => Sys2Proof.Machine.execImm25 fa fb s
  | .imm26 fa fb _ => Sys2Proof.Machine.execImm26 fa fb s
  | .imm27 fa fb _ => Sys2Proof.Machine.execImm27 fa fb s
  | .imm28 fa fb _ => Sys2Proof.Machine.execImm28 fa fb s
  | .imm29 fa fb _ => Sys2Proof.Machine.execImm29 fa fb s
  | .imm30 fa fb _ => Sys2Proof.Machine.execImm30 fa fb s
  | .imm31 fa fb _ => Sys2Proof.Machine.execImm31 fa fb s
  | .load32 fa fb _ => Sys2Proof.Machine.execLoad32 fa fb s
  | .load33 fa fb _ => Sys2Proof.Machine.execLoad33 fa fb s
  | .load34 fa fb _ => Sys2Proof.Machine.execLoad34 fa fb s
  | .load35 fa fb _ => Sys2Proof.Machine.execLoad35 fa fb s
  | .load36 fa fb _ => Sys2Proof.Machine.execLoad36 fa fb s
  | .load37 fa fb _ => Sys2Proof.Machine.execLoad37 fa fb s
  | .imm38 fa fb _ => Sys2Proof.Machine.execImm38 fa fb s
  | .imm39 fa fb _ => Sys2Proof.Machine.execImm39 fa fb s
  | .store40 fa fb _ => Sys2Proof.Machine.execStore40 fa fb s
  | .store41 fa fb _ => Sys2Proof.Machine.execStore41 fa fb s
  | .store42 fa fb _ => Sys2Proof.Machine.execStore42 fa fb s
  | .store43 fa fb _ => Sys2Proof.Machine.execStore43 fa fb s
  | .imm44 fa fb _ => Sys2Proof.Machine.execImm44 fa fb s
  | .imm45 fa fb _ => Sys2Proof.Machine.execImm45 fa fb s
  | .imm46 fa fb _ => Sys2Proof.Machine.execImm46 fa fb s
  | .imm47 fa fb _ => Sys2Proof.Machine.execImm47 fa fb s
  | .imm48 fa fb _ => Sys2Proof.Machine.execImm48 fa fb s
  | .imm49 fa fb _ => Sys2Proof.Machine.execImm49 fa fb s
  | .imm50 fa fb _ => Sys2Proof.Machine.execImm50 fa fb s
  | .imm51 fa fb _ => Sys2Proof.Machine.execImm51 fa fb s
  | .imm52 fa fb _ => Sys2Proof.Machine.execImm52 fa fb s
  | .imm53 fa fb _ => Sys2Proof.Machine.execImm53 fa fb s
  | .imm54 fa fb _ => Sys2Proof.Machine.execImm54 fa fb s
  | .imm55 fa fb _ => Sys2Proof.Machine.execImm55 fa fb s
  | .imm56 fa fb _ => Sys2Proof.Machine.execImm56 fa fb s
  | .imm57 fa fb _ => Sys2Proof.Machine.execImm57 fa fb s
  | .imm58 fa fb _ => Sys2Proof.Machine.execImm58 fa fb s
  | .imm59 fa fb _ => Sys2Proof.Machine.execImm59 fa fb s
  | .imm60 fa fb _ => Sys2Proof.Machine.execImm60 fa fb s
  | .imm61 fa fb _ => Sys2Proof.Machine.execImm61 fa fb s
  | .imm62 fa fb _ => Sys2Proof.Machine.execImm62 fa fb s
  | .imm63 fa fb _ => Sys2Proof.Machine.execImm63 fa fb s

end Sys2Proof.Machine
end

