-- ==== Sys2Proof/Machine/Step.lean ====
section
/-! DEFINITION. One step of the machine: one cycle, run as the meaning of the instruction standing in ID. -/

namespace Sys2Proof.Machine

/-- One step (R90, R191). On a done instance it is the identity (R103). -/
def step (s : State) : Host.Outcome State Fault Refusal :=
  if s.done then .next s
  else if operandsDecoded s then exec (standing s) s
  else .refused .operandsNotDecoded

/-- The state whose very next step runs the instruction of a table word: the word stands in ID (log entry 1). -/
def State.withFetchWord (s : State) (nbits w : Nat) : State := placeInID (tableWord nbits w) s

end Sys2Proof.Machine
end

