-- ==== Sys2Proof/Machine/Result.lean ====
section
/-! DEFINITION. The metrics calculator, the result, and the block's three abstract operations (R150 to R160, R191). -/

namespace Sys2Proof.Machine

/-- The CPI ratio as the exact pair (R155, D18). -/
structure Cpi where
  num : Nat
  den : Nat
deriving DecidableEq, Repr

/-- The metrics calculator, with its guard against a zero divisor (R150, R155, R177). -/
def cpiOf (m : Metrics) : Cpi where
  num := m.totalCycles
  den := if m.totalInstructionsCompleted > 0 then m.totalInstructionsCompleted else 1

/-- `SimulationResult` (R160). -/
structure SimulationResult where
  metrics : Metrics
  cpi : Cpi
  history : List HistoryEntry
  finalIF : Slot
  finalID : Slot
  finalEX : Slot
  finalMEM : Slot
  finalWB : Slot
  lastReport : HazardReport
deriving DecidableEq, Repr

/-- The bundle of R160. -/
def bundle (s : State) : SimulationResult where
  metrics := s.metrics
  cpi := cpiOf s.metrics
  history := s.history
  finalIF := s.sIF
  finalID := s.sID
  finalEX := s.sEX
  finalMEM := s.sMEM
  finalWB := s.sWB
  lastReport := s.report

/-- The operation `result`, enabled when the run is over (R162, R191). -/
def result (s : State) : Option SimulationResult := if s.done then some (bundle s) else none

/-- The operation `reset`, enabled at any time; nothing of the state it is applied to survives but the parameters,
which are fixed for the machine (R190, R192). -/
def resetOp (s : State) (imem : List Word) (fwd bp : Bool) : State := State.resetWith s.params imem fwd bp

/-- Up to `k` steps, stopping at a refusal. -/
def runSteps : Nat → State → Host.Outcome State Fault Refusal
  | 0, s => .next s
  | k + 1, s =>
    match step s with
    | .next t => runSteps k t
    | .fault f => .fault f
    | .refused r => .refused r

/-- `simulate` (R104): reset, then cycles until the run is over, then the result. No run needs more than `cycleCap`
cycles, and a step on a done instance is the identity, so that many steps suffice. `none` would mean a refused step or
an unfinished run. -/
def simulate (p : Params) (imem : List Word) (fwd bp : Bool) : Option SimulationResult :=
  match runSteps cycleCap (State.resetWith p imem fwd bp) with
  | .next t => result t
  | .fault _ => none
  | .refused _ => none

end Sys2Proof.Machine
end

