-- ==== Sys2Proof/Safety.lean ====
section
/-! DEFINITION. What claims about the machine are stated in: the rules of the spec written as relations between a state
and the state after a cycle, the decoder's procedure as R57 and R70 write it, and the invariants every reachable state
has. A safe run is one that no step refuses; `RunInv` is what makes it so. -/

namespace Sys2Proof.Machine

/-! ## The decoder as the spec writes it -/

/-- Class selection line by line (R57). -/
def classByLines (p : Params) (w : Word) : DecodeClass :=
  if w = 0#32 then .zero
  else if opField w = 0#6 ∧ fnField w = p.functJr then .jr
  else if opField w = 0#6 ∧ fnField w = p.functJalr then .jalr
  else if opField w = 0#6 then .reg
  else if opField w = 2#6 then .jump
  else if opField w = 3#6 then .jumplink
  else if 4 ≤ (opField w).toNat ∧ (opField w).toNat ≤ 7 then .branch
  else if 32 ≤ (opField w).toNat ∧ (opField w).toNat ≤ 37 then .load
  else if 40 ≤ (opField w).toNat ∧ (opField w).toNat ≤ 43 then .store
  else .imm

/-- The procedure of R70, line by line. -/
def decodeByProcedure (p : Params) (w : Word) : Operands :=
  if w = 0#32 then ⟨none, none, none⟩
  else if opField w = 0#6 ∧ fnField w = p.functJr then ⟨some (faField w), none, none⟩
  else if opField w = 0#6 ∧ fnField w = p.functJalr then ⟨some (faField w), none, some (fcField w)⟩
  else if opField w = 0#6 then ⟨some (faField w), some (fbField w), some (fcField w)⟩
  else if opField w = 2#6 then ⟨none, none, none⟩
  else if opField w = 3#6 then ⟨none, none, some linkReg⟩
  else if 4 ≤ (opField w).toNat ∧ (opField w).toNat ≤ 7 then ⟨some (faField w), some (fbField w), none⟩
  else if 32 ≤ (opField w).toNat ∧ (opField w).toNat ≤ 37 then ⟨some (faField w), none, some (fbField w)⟩
  else if 40 ≤ (opField w).toNat ∧ (opField w).toNat ≤ 43 then ⟨some (faField w), some (fbField w), none⟩
  else ⟨some (faField w), none, some (fbField w)⟩

/-! ## The constructors of each class that spans several opcodes -/

/-- The forms of class IMM: opcodes 1, 8 to 31, 38, 39, 44 to 63 (R59, R80). -/
def immForms : List (RegIdx → RegIdx → BitVec 16 → Instr) :=
  [.imm1, .imm8, .imm9, .imm10, .imm11, .imm12, .imm13, .imm14, .imm15, .imm16, .imm17, .imm18, .imm19, .imm20]
  ++ [.imm21, .imm22, .imm23, .imm24, .imm25, .imm26, .imm27, .imm28, .imm29, .imm30, .imm31, .imm38, .imm39, .imm44]
  ++ [.imm45, .imm46, .imm47, .imm48, .imm49, .imm50, .imm51, .imm52, .imm53, .imm54, .imm55, .imm56, .imm57, .imm58]
  ++ [.imm59, .imm60, .imm61, .imm62, .imm63]

/-- The forms of class LOAD: opcodes 32 to 37 (R75). -/
def loadForms : List (RegIdx → RegIdx → BitVec 16 → Instr) := [.load32, .load33, .load34, .load35, .load36, .load37]

/-- The forms of class STORE: opcodes 40 to 43 (R76). -/
def storeForms : List (RegIdx → RegIdx → BitVec 16 → Instr) := [.store40, .store41, .store42, .store43]

/-- The forms of class BRANCH: opcodes 4 to 7 (R77). -/
def branchForms : List (RegIdx → RegIdx → BitVec 16 → Instr) := [.branch4, .branch5, .branch6, .branch7]

/-! ## What the hazard check finds on an operand -/

/-- The entry step 3 sees: after this cycle's Writeback clear, before this cycle's mark (R49 (d), R123). -/
def entryAtCheck (s : State) (r : RegIdx) : Entry :=
  if s.sWB.valid = true ∧ s.sWB.dest = some r then none else s.sb.read r

/-- What section 2 of 42_hazard.md lets the check find on one operand. -/
inductive Finding
  /-- No operand, register 0, or an available register (R122, R123). -/
  | nothing
  /-- R125. -/
  | loadUse
  /-- R126, with the stage that is selected and the register. -/
  | forwarded (st : Stage) (r : RegIdx)
  /-- R127. -/
  | rawStall
  /-- R128: no meaning. -/
  | noMeaning
deriving DecidableEq, Repr

/-- The finding on an operand of the instruction standing in ID, in the order R122, R123, R125, R126 with R128, R127. -/
def finding (s : State) (o : Operand) : Finding :=
  match o with
  | none => .nothing
  | some r =>
    if r = 0 then .nothing
    else match entryAtCheck s r with
      | none => .nothing
      | some st =>
        if st = .execute ∧ isLoad s.sEX.word = true then .loadUse
        else if s.fwd = false then .rawStall
        else if st = .execute ∨ st = .memory ∨ st = .writeback then .forwarded st r
        else .noMeaning

/-- The finding is a data hazard (R121, R123). -/
def Finding.hazards : Finding → Bool
  | .nothing => false
  | .loadUse | .forwarded _ _ | .rawStall | .noMeaning => true

/-- The finding demands a stall (R125, R127). -/
def Finding.stalls : Finding → Bool
  | .loadUse | .rawStall => true
  | .nothing | .forwarded _ _ | .noMeaning => false

/-- The kind the finding assigns, if any (R130). -/
def Finding.kind : Finding → Option HazardKind
  | .nothing | .noMeaning => none
  | .loadUse => some .loadUse
  | .forwarded _ _ | .rawStall => some .raw

/-- The forward record the finding writes, if any (R126). -/
def Finding.record : Finding → Option Forward
  | .forwarded st r => some ⟨st, .decode, r⟩
  | .nothing | .loadUse | .rawStall | .noMeaning => none

/-- 1 if the finding is load-use (R125), else 0. -/
def Finding.loadUses : Finding → Nat
  | .loadUse => 1
  | .nothing | .forwarded _ _ | .rawStall | .noMeaning => 0

/-- 1 if the finding is a forward (R126), else 0. -/
def Finding.forwards : Finding → Nat
  | .forwarded _ _ => 1
  | .nothing | .loadUse | .rawStall | .noMeaning => 0

/-- The report a cycle makes, from what the check found on `src1` and `src2` and from the control check: the last
writer of `kind` and of `forward` stands, and the stall flag is the OR of the demands (R129, R130, R131). -/
def reportFrom (f1 f2 : Finding) (control bp : Bool) : HazardReport where
  detected := f1.hazards || f2.hazards || control
  kind := if control then .control else (f2.kind.or f1.kind).getD .none
  stallRequired := f1.stalls || f2.stalls || (control && !bp)
  forward := f2.record.or f1.record

/-- The operand does not hold its instruction back: nothing is found on it, or it is forwarded. -/
def Passes (s : State) (o : Operand) : Prop :=
  finding s o = .nothing ∨ ∃ st r, finding s o = .forwarded st r

/-- Nothing is found on the operand. -/
def Available (s : State) (o : Operand) : Prop := finding s o = .nothing

/-- No operand of the instruction meets a scoreboard code without a meaning (R128). -/
def CodesMeaningful (i : Instr) (s : State) : Prop :=
  finding s (operandsOf i).src1 ≠ .noMeaning ∧ finding s (operandsOf i).src2 ≠ .noMeaning

/-! ## What a cycle does, as relations between the state before and the state after -/

/-- The inputs of the run are unchanged (R17, R51). -/
structure SameInputs (s t : State) : Prop where
  imem : t.imem = s.imem
  fwd : t.fwd = s.fwd
  bp : t.bp = s.bp
  params : t.params = s.params

/-- What every cycle does, stalled or not: the cycle count, Writeback's count, and the copies of steps 1 and 2
(R91, R92, R93). -/
structure Drains (s t : State) : Prop where
  wb : t.sWB = s.sMEM
  mem : t.sMEM = s.sEX
  total : t.metrics.totalCycles = s.metrics.totalCycles + 1
  completed : t.metrics.totalInstructionsCompleted
    = s.metrics.totalInstructionsCompleted + (if s.sWB.valid then 1 else 0)
  inputs : SameInputs s t

/-- A cycle without a stall: the instruction in ID enters EX and marks its destination, the word in IF enters ID with
its decode, the next word is fetched (R95, R96, R98, R133, R134). -/
structure Issues (s : State) (dest : Operand) (t : State) : Prop where
  drains : Drains s t
  ex : t.sEX = s.sID
  id : t.sID = s.sIF.decoded s.params
  fetched : ∀ w, s.imem[s.fi]? = some w → t.sIF = Slot.fetched w (pcLabel s.params s.fi) ∧ t.fi = s.fi + 1
  exhausted : s.imem[s.fi]? = none → t.sIF = Slot.bubble ∧ t.fi = s.fi
  scoreboard : ∀ r, t.sb.read r = if dest = some r ∧ r ≠ 0 then some .execute else entryAtCheck s r
  stallCycles : t.metrics.stallCycles = s.metrics.stallCycles

/-- A stalled cycle: a bubble enters EX, ID gets a bubble or is held as the policy says, IF and the fetch index are
kept, nothing is marked, and one stall is counted (R95 to R99). -/
structure Stalls (s t : State) : Prop where
  drains : Drains s t
  ex : t.sEX = Slot.bubble
  discards : s.params.stallIdPolicy = .bubble → t.sID = Slot.bubble
  holds : s.params.stallIdPolicy = .hold → t.sID = s.sID
  keepsIF : t.sIF = s.sIF
  keepsFI : t.fi = s.fi
  scoreboard : ∀ r, t.sb.read r = entryAtCheck s r
  stallCycles : t.metrics.stallCycles = s.metrics.stallCycles + 1

/-- The report and the four hazard counters after a cycle, from what the check finds on the two operands and from the
control flag (R121, R124 to R126, R129 to R131; the spec's decisions D2 to D5, log entries 11 and 12). -/
structure Checks (s : State) (ops : Operands) (control : Bool) (t : State) : Prop where
  report : t.report = reportFrom (finding s ops.src1) (finding s ops.src2) control s.bp
  raws : t.metrics.rawHazardCount = s.metrics.rawHazardCount
    + (if (finding s ops.src1).hazards || (finding s ops.src2).hazards then 1 else 0)
  loadUses : t.metrics.loadUseStalls = s.metrics.loadUseStalls
    + (finding s ops.src1).loadUses + (finding s ops.src2).loadUses
  forwards : t.metrics.forwardCount = s.metrics.forwardCount
    + (finding s ops.src1).forwards + (finding s ops.src2).forwards
  branches : t.metrics.branchStalls = s.metrics.branchStalls + (if control then 1 else 0)

/-- The history and the terminal bit after a cycle (R100, R101, R102, R157, R158). -/
structure Recorded (s t : State) : Prop where
  history : t.history = if s.history.length < 50 then
      s.history ++ [⟨t.metrics.totalCycles, ⟨t.sIF.word, t.sID.word, t.sEX.word, t.sMEM.word, t.sWB.word⟩,
        t.report.kind, t.report.stallRequired, t.report.forward.isSome⟩]
    else s.history
  done : s.done = false → (t.done = true ↔
      (t.fi = t.imem.length ∧ t.sIF.valid = false ∧ t.sID.valid = false ∧ t.sEX.valid = false
        ∧ t.sMEM.valid = false ∧ t.sWB.valid = false) ∨ t.metrics.totalCycles = 500)

/-- The state with another history in place of its own (R158). -/
def State.withHistory (s : State) (h : List HistoryEntry) : State := { s with history := h }

/-! ## The invariants -/

/-- An invalid slot is a bubble: word 0 and no operands (R11). -/
def Slot.bubbleForm (x : Slot) : Prop := x.valid = false → x.word = 0#32 ∧ x.operands = ⟨none, none, none⟩

/-- R11 for the five slots. -/
structure SlotsInv (s : State) : Prop where
  sIF : s.sIF.bubbleForm
  sID : s.sID.bubbleForm
  sEX : s.sEX.bubbleForm
  sMEM : s.sMEM.bubbleForm
  sWB : s.sWB.bubbleForm

/-- The operand fields are empty in IF and the decode of the word from ID on (R13). -/
structure OperandsInv (s : State) : Prop where
  sIF : s.sIF.operands = ⟨none, none, none⟩
  sID : s.sID.operands = decode s.params s.sID.word
  sEX : s.sEX.operands = decode s.params s.sEX.word
  sMEM : s.sMEM.operands = decode s.params s.sMEM.word
  sWB : s.sWB.operands = decode s.params s.sWB.word

/-- Register 0 is never busy, and an entry is 0 or 3 (R15). -/
structure ScoreboardInv (s : State) : Prop where
  zero : s.sb.read 0 = none
  codes : ∀ r, s.sb.read r = none ∨ s.sb.read r = some .execute

/-- A busy register has a producer in EX, MEM or WB (R134: a mark is always followed by its clear). -/
def ProducerInv (s : State) : Prop :=
  ∀ r, s.sb.read r ≠ none → s.sEX.dest = some r ∨ s.sMEM.dest = some r ∨ s.sWB.dest = some r

/-- `0 ≤ FI ≤ N` (R16). -/
def FetchInv (s : State) : Prop := s.fi ≤ s.imem.length

/-- The history holds one entry per cycle, numbered from 1, up to the cap (R159). -/
structure HistoryInv (s : State) : Prop where
  length : s.history.length = min s.metrics.totalCycles 50
  numbers : s.history.map HistoryEntry.cycleNumber = (List.range s.history.length).map (· + 1)

/-- No instruction stands in a stage before the cycle in which the first one can (R107, R194). -/
structure OccupancyInv (s : State) : Prop where
  sIF : s.sIF.valid = true → 1 ≤ s.metrics.totalCycles
  sID : s.sID.valid = true → 2 ≤ s.metrics.totalCycles
  sEX : s.sEX.valid = true → 3 ≤ s.metrics.totalCycles
  sMEM : s.sMEM.valid = true → 4 ≤ s.metrics.totalCycles
  sWB : s.sWB.valid = true → 5 ≤ s.metrics.totalCycles

/-- The relations between the counters (R161). -/
structure CountersInv (s : State) : Prop where
  stalls : s.metrics.stallCycles ≤ s.metrics.totalCycles
  raws : s.metrics.rawHazardCount ≤ s.metrics.totalCycles
  branches : s.metrics.branchStalls ≤ s.metrics.totalCycles
  perOperand : s.metrics.loadUseStalls + s.metrics.forwardCount ≤ 2 * s.metrics.rawHazardCount
  noForward : s.fwd = false → s.metrics.forwardCount = 0
  completed : s.metrics.totalInstructionsCompleted ≤ s.metrics.totalCycles - 5
  causes : s.metrics.stallCycles ≤ s.metrics.rawHazardCount + s.metrics.branchStalls
  onlyLoadUse : s.bp = true → s.fwd = true → s.metrics.stallCycles ≤ s.metrics.loadUseStalls

/-- How many slots hold an instruction. -/
def inFlight (s : State) : Nat :=
  s.sIF.valid.toNat + s.sID.valid.toNat + s.sEX.valid.toNat + s.sMEM.valid.toNat + s.sWB.valid.toNat

/-- Every fetched instruction is in flight, completed, or discarded by a stall; the policy HOLD discards none
(R105 (a), R106 (a)). -/
structure AccountInv (s : State) : Prop where
  bubble : s.params.stallIdPolicy = .bubble →
    s.metrics.totalInstructionsCompleted + s.metrics.stallCycles + inFlight s = s.fi
  hold : s.params.stallIdPolicy = .hold → s.metrics.totalInstructionsCompleted + inFlight s = s.fi

/-- The run ends at the cycle cap at the latest (R102). -/
structure CapInv (s : State) : Prop where
  bound : s.metrics.totalCycles ≤ 500
  done : s.metrics.totalCycles = 500 → s.done = true

/-- Under the policy BUBBLE, ID is a bubble after a stalled cycle (R96). -/
def AfterStallInv (s : State) : Prop :=
  s.params.stallIdPolicy = .bubble → s.report.stallRequired = true → s.sID = Slot.bubble

/-- A state of a run: all of the above together. -/
structure RunInv (s : State) : Prop where
  slots : SlotsInv s
  operands : OperandsInv s
  scoreboard : ScoreboardInv s
  producers : ProducerInv s
  fetch : FetchInv s
  history : HistoryInv s
  occupancy : OccupancyInv s
  counters : CountersInv s
  account : AccountInv s
  cap : CapInv s
  afterStall : AfterStallInv s

/-! ## Programs -/

/-- Instruction `j` of the program names `r` as its destination: `W(j, r)` of R196. -/
def writes (p : Params) (imem : List Word) (j : Nat) (r : RegIdx) : Prop :=
  ∃ w, imem[j]? = some w ∧ (decode p w).dest = some r

/-- No instruction reads a register `r ≥ 1` that one of the two instructions before it writes (R201). -/
def NoReuse (p : Params) (imem : List Word) : Prop :=
  ∀ (j : Nat) (w : Word) (r : RegIdx), imem[j]? = some w → r ≠ 0 →
    (decode p w).src1 = some r ∨ (decode p w).src2 = some r →
    (∀ k, k + 1 = j → ¬ writes p imem k r) ∧ (∀ k, k + 2 = j → ¬ writes p imem k r)

/-- The program holds no control-class word (R61). -/
def NoControl (p : Params) (imem : List Word) : Prop := ∀ w ∈ imem, isControl p w = false

/-- `k` steps of a run from reset, with the given inputs, lead to `t` (R104). -/
def RunsTo (p : Params) (imem : List Word) (fwd bp : Bool) (k : Nat) (t : State) : Prop :=
  runSteps k (State.resetWith p imem fwd bp) = .next t

end Sys2Proof.Machine
end

