-- ==== Sys2Proof/Certificates/Slice0/Obligations.lean ====
section
/-! DEFINITION. The statements about CAVL-PRF. Each docstring names the rule or section of the spec it formalises.
The words `Issues`, `Stalls`, `finding`, `RunInv` and the like are those of Sys2Proof/Safety.lean. -/

open Sys2Proof Sys2Proof.Machine

/-! ## Encoding and decoding -/

/-- A few words written out from R55 and R65 decode to the instruction they stand for. Words and register numbers as in
95_test_vectors.md section 2.1; the funct numbers 8 and 9 are PRESUMED (log entry 7). -/
def Obligations.WordsDecodeAsTheMapSays : Prop :=
  decodeInstr Params.default 0x00000000#32 = .zero ∧
  decodeInstr Params.default 0x01095020#32 = .reg 8 9 10 0#5 32#6 ∧
  decodeInstr Params.default 0x03E00008#32 = .jr 31 0 0 0#5 ∧
  decodeInstr Params.default 0x0320F809#32 = .jalr 25 0 31 0#5 ∧
  decodeInstr Params.default 0x05010003#32 = .imm1 8 1 3#16 ∧
  decodeInstr Params.default 0x08000010#32 = .jump 16#26 ∧
  decodeInstr Params.default 0x0C000010#32 = .jumplink 16#26 ∧
  decodeInstr Params.default 0x11090003#32 = .branch4 8 9 3#16 ∧
  decodeInstr Params.default 0x8D4B0000#32 = .load35 10 11 0#16 ∧
  decodeInstr Params.default 0xAFAB0004#32 = .store43 29 11 4#16 ∧
  decodeInstr Params.default 0xFFFFFFFF#32 = .imm63 31 31 0xFFFF#16

/-- Decoding the word of a well-formed instruction gives the instruction back, for every value of the parameters
(R55, R57, R59). That an instruction term carries the bits the block never reads, and so gets them back, is the model's
choice (log entry 16). -/
def Obligations.DecodeOfEncodeGivesTheInstruction : Prop :=
  ∀ (p : Params) (i : Instr), i.wf p = true → decodeInstr p (encode p i) = i

/-- Every word decodes to a well-formed instruction whose word it is. That no word is refused and each is decoded alone is
R63 and R64; that no bit of it is dropped, the bits the block never reads included, is the model's choice (log entry
16). -/
def Obligations.EncodeOfDecodeGivesTheWord : Prop :=
  ∀ (p : Params) (w : Word), (decodeInstr p w).wf p = true ∧ encode p (decodeInstr p w) = w

/-- R57: the class is the first matching line of its table. -/
def Obligations.ClassIsTheFirstMatchingLine : Prop :=
  ∀ (p : Params) (w : Word), (decodeInstr p w).cls = classByLines p w

/-- R70: the decoder is the procedure written there. -/
def Obligations.DecodeIsTheProcedure : Prop :=
  ∀ (p : Params) (w : Word), decode p w = decodeByProcedure p w

/-- R60: `is_load` is the opcodes 32 to 37 and nothing else, and no bubble is a load. With it R75: it is true of the class
LOAD and of no other. -/
def Obligations.IsLoadIsOpcodes32To37 : Prop :=
  (∀ w : Word, isLoad w = true ↔ 32 ≤ w.toNat / 2 ^ 26 ∧ w.toNat / 2 ^ 26 ≤ 37) ∧
  isLoad 0#32 = false ∧
  (∀ (p : Params) (w : Word), isLoad w = true ↔ (decodeInstr p w).cls = .load)

/-- R61 for both values of CONTROL_INCLUDES_JR: `is_control` of a word is what its instruction's meaning passes to the
cycle, and it is true of JUMP, JUMPLINK, BRANCH and, with the parameter set, of JR and JALR. -/
def Obligations.IsControlIsTheControlClasses : Prop :=
  ∀ (p : Params) (w : Word),
    isControl p w = controlOf p (decodeInstr p w) ∧
    (isControl p w = true ↔
      (2 ≤ w.toNat / 2 ^ 26 ∧ w.toNat / 2 ^ 26 ≤ 7) ∨
      (p.controlIncludesJr = true ∧ (classByLines p w = .jr ∨ classByLines p w = .jalr)))

/-! ## Each class: the cycle in which its instruction stands in ID, completing -/

/-- ZERO (R71, R136): the cycle always completes, finds nothing and moves no hazard counter. -/
def Obligations.ZeroIssuesAndFindsNothing : Prop :=
  ∀ s : State, ∃ t, exec .zero s = .next t ∧ Issues s none t ∧ t.report = .empty ∧
    t.metrics.rawHazardCount = s.metrics.rawHazardCount ∧ t.metrics.loadUseStalls = s.metrics.loadUseStalls ∧
    t.metrics.forwardCount = s.metrics.forwardCount ∧ t.metrics.branchStalls = s.metrics.branchStalls

/-- REG (R72): sources FA and FB, destination FC, no control hazard. -/
def Obligations.RegIssuesWhenBothSourcesPass : Prop :=
  ∀ (fa fb fc : RegIdx) (sh : BitVec 5) (fn : BitVec 6) (s : State), Passes s (some fa) → Passes s (some fb) →
    ∃ t, exec (.reg fa fb fc sh fn) s = .next t ∧ Issues s (some fc) t ∧
      t.report = reportFrom (finding s (some fa)) (finding s (some fb)) false s.bp

/-- IMM (R80): source FA, destination FB, no control hazard; all 47 opcodes of the class. -/
def Obligations.ImmFormsIssueWhenTheSourcePasses : Prop :=
  ∀ mk ∈ immForms, ∀ (fa fb : RegIdx) (low : BitVec 16) (s : State), Passes s (some fa) →
    ∃ t, exec (mk fa fb low) s = .next t ∧ Issues s (some fb) t ∧
      t.report = reportFrom (finding s (some fa)) .nothing false s.bp

/-- LOAD (R75): source FA, destination FB, no control hazard; opcodes 32 to 37. -/
def Obligations.LoadFormsIssueWhenTheBasePasses : Prop :=
  ∀ mk ∈ loadForms, ∀ (fa fb : RegIdx) (low : BitVec 16) (s : State), Passes s (some fa) →
    ∃ t, exec (mk fa fb low) s = .next t ∧ Issues s (some fb) t ∧
      t.report = reportFrom (finding s (some fa)) .nothing false s.bp

/-- STORE (R76): sources FA and FB, no destination, no control hazard; opcodes 40 to 43. -/
def Obligations.StoreFormsIssueWhenBothSourcesPass : Prop :=
  ∀ mk ∈ storeForms, ∀ (fa fb : RegIdx) (low : BitVec 16) (s : State), Passes s (some fa) → Passes s (some fb) →
    ∃ t, exec (mk fa fb low) s = .next t ∧ Issues s none t ∧
      t.report = reportFrom (finding s (some fa)) (finding s (some fb)) false s.bp

/-- BRANCH (R77, R129) with prediction enabled: sources FA and FB, no destination, kind Control, one branch counted, no
stall of its own; opcodes 4 to 7. -/
def Obligations.BranchFormsIssueWithPrediction : Prop :=
  ∀ mk ∈ branchForms, ∀ (fa fb : RegIdx) (low : BitVec 16) (s : State), s.bp = true →
    Passes s (some fa) → Passes s (some fb) →
    ∃ t, exec (mk fa fb low) s = .next t ∧ Issues s none t ∧
      t.report = reportFrom (finding s (some fa)) (finding s (some fb)) true true ∧
      t.metrics.branchStalls = s.metrics.branchStalls + 1

/-- JUMP (R78, R129) with prediction enabled: no operands, kind Control, one branch counted; the scoreboard is not
consulted and fetch is not redirected. -/
def Obligations.JumpIssuesWithPrediction : Prop :=
  ∀ (target : BitVec 26) (s : State), s.bp = true →
    ∃ t, exec (.jump target) s = .next t ∧ Issues s none t ∧
      t.report = ⟨true, .control, false, none⟩ ∧ t.metrics.branchStalls = s.metrics.branchStalls + 1

/-- JUMPLINK (R79, R129) with prediction enabled: register 31 is marked, kind Control, one branch counted. -/
def Obligations.JumplinkIssuesWithPrediction : Prop :=
  ∀ (target : BitVec 26) (s : State), s.bp = true →
    ∃ t, exec (.jumplink target) s = .next t ∧ Issues s (some 31) t ∧ t.sb.read 31 = some .execute ∧
      t.report = ⟨true, .control, false, none⟩ ∧ t.metrics.branchStalls = s.metrics.branchStalls + 1

/-- JR (R73, R61): source FA only; a control hazard exactly when CONTROL_INCLUDES_JR is set. -/
def Obligations.JrIssuesWhenItsSourcePasses : Prop :=
  ∀ (fa fb fc : RegIdx) (sh : BitVec 5) (s : State), s.bp = true ∨ s.params.controlIncludesJr = false →
    Passes s (some fa) →
    ∃ t, exec (.jr fa fb fc sh) s = .next t ∧ Issues s none t ∧
      t.report = reportFrom (finding s (some fa)) .nothing s.params.controlIncludesJr s.bp ∧
      t.metrics.branchStalls = s.metrics.branchStalls + (if s.params.controlIncludesJr then 1 else 0)

/-- JALR (R74, R61): source FA, destination FC (the field, not 31); a control hazard exactly when CONTROL_INCLUDES_JR is
set. -/
def Obligations.JalrIssuesWhenItsSourcePasses : Prop :=
  ∀ (fa fb fc : RegIdx) (sh : BitVec 5) (s : State), s.bp = true ∨ s.params.controlIncludesJr = false →
    Passes s (some fa) →
    ∃ t, exec (.jalr fa fb fc sh) s = .next t ∧ Issues s (some fc) t ∧
      t.report = reportFrom (finding s (some fa)) .nothing s.params.controlIncludesJr s.bp ∧
      t.metrics.branchStalls = s.metrics.branchStalls + (if s.params.controlIncludesJr then 1 else 0)

/-! ## Hazards, for every instruction -/

/-- 42_hazard.md sections 1 to 3: the report and the four hazard counters, from what the check finds on the two operands
and from the control check. Both operands are always evaluated, the counters of R125 and R126 move per operand, R124's
once, and the last writer of `kind` and `forward` stands (the spec's decisions D2 to D5, log entries 11 and 12). -/
def Obligations.CheckReportsAndCountsWhatItFinds : Prop :=
  ∀ (i : Instr) (s : State), CodesMeaningful i s →
    ∃ t, exec i s = .next t ∧ Checks s (operandsOf i) (controlOf s.params i) t

/-- R128 (D7, log entry 4): with a scoreboard code that names no forwarding source, and only then, an instruction has no
meaning. -/
def Obligations.OnlyMeaninglessCodesAreRefused : Prop :=
  ∀ (i : Instr) (s : State) (r : Refusal),
    exec i s = .refused r ↔ ¬ CodesMeaningful i s ∧ r = .noForwardingSource

/-- R125: a busy source with code 3 and any load in EX stalls the instruction, forwarding enabled or not; the load need
not be the producer. -/
def Obligations.LoadInExStallsABusySource : Prop :=
  ∀ (i : Instr) (s : State) (r : RegIdx), r ≠ 0 →
    (operandsOf i).src1 = some r ∨ (operandsOf i).src2 = some r →
    entryAtCheck s r = some .execute → isLoad s.sEX.word = true → CodesMeaningful i s →
    ∃ t, exec i s = .next t ∧ Stalls s t ∧ t.report.detected = true ∧ t.report.stallRequired = true ∧
      t.metrics.rawHazardCount = s.metrics.rawHazardCount + 1 ∧
      s.metrics.loadUseStalls + 1 ≤ t.metrics.loadUseStalls

/-- R127, R124: with forwarding disabled a busy source stalls the instruction whatever its code, and nothing is
forwarded. -/
def Obligations.BusySourceStallsWithoutForwarding : Prop :=
  ∀ (i : Instr) (s : State) (r : RegIdx), r ≠ 0 →
    (operandsOf i).src1 = some r ∨ (operandsOf i).src2 = some r →
    entryAtCheck s r ≠ none → s.fwd = false →
    ∃ t, exec i s = .next t ∧ Stalls s t ∧ t.report.forward = none ∧
      t.metrics.forwardCount = s.metrics.forwardCount ∧
      t.metrics.rawHazardCount = s.metrics.rawHazardCount + 1

/-- R129: a control-class instruction in ID is reported as Control over any data hazard and counts one branch whether it
stalls or not. The data hazards keep their forward record, their counters and their stall; prediction adds no stall, its
absence always stalls. A cycle that does not stall fetches on as for any instruction. Two clauses rest on the spec's
decisions and not on R129: that the counters move per operand, both operands being evaluated (D2, log entry 11), and
that the forward record of `src2` stands over that of `src1` (D4, log entry 12). -/
def Obligations.ControlHazardIsReportedOverDataHazards : Prop :=
  ∀ (i : Instr) (s : State), CodesMeaningful i s → controlOf s.params i = true →
    ∃ t, exec i s = .next t ∧
      t.report = ⟨true, .control,
        (finding s (operandsOf i).src1).stalls || (finding s (operandsOf i).src2).stalls || !s.bp,
        (finding s (operandsOf i).src2).record.or (finding s (operandsOf i).src1).record⟩ ∧
      t.metrics.branchStalls = s.metrics.branchStalls + 1 ∧
      t.metrics.rawHazardCount = s.metrics.rawHazardCount
        + (if (finding s (operandsOf i).src1).hazards || (finding s (operandsOf i).src2).hazards then 1 else 0) ∧
      t.metrics.loadUseStalls = s.metrics.loadUseStalls
        + (finding s (operandsOf i).src1).loadUses + (finding s (operandsOf i).src2).loadUses ∧
      t.metrics.forwardCount = s.metrics.forwardCount
        + (finding s (operandsOf i).src1).forwards + (finding s (operandsOf i).src2).forwards ∧
      (t.report.stallRequired = false → Issues s (operandsOf i).dest t) ∧
      (t.report.stallRequired = true → Stalls s t)

/-- R127: the operand check with forwarding disabled, on a busy register that is not a load-use hazard: the operand
hazards, demands the stall and assigns RAW, and touches neither the forward record nor a counter. That it sets
`detected` is R121, the spec's decision D5 (log entry 12). -/
def Obligations.OperandWithoutForwardingStalls : Prop :=
  ∀ (exLoad : Bool) (sb : Scoreboard) (r : RegIdx) (st : Stage) (c : Check),
    r ≠ 0 → sb.read r = some st → ¬ (st = .execute ∧ exLoad = true) →
    checkOperand false exLoad sb (some r) c =
      some ⟨⟨true, .raw, true, c.report.forward⟩, c.metrics, true⟩

/-- R122: an operand that is absent or register 0 is skipped: whatever the scoreboard holds, nothing is written and
nothing is counted. -/
def Obligations.SkippedOperandsChangeNothing : Prop :=
  ∀ (fwd exLoad : Bool) (sb : Scoreboard) (c : Check),
    checkOperand fwd exLoad sb none c = some c ∧ checkOperand fwd exLoad sb (some 0) c = some c

/-- R136: whatever the scoreboard holds, an instruction whose sources are absent or register 0 and which is not
control-class is not refused, finds nothing, and moves no hazard counter. -/
def Obligations.NothingInIdFindsNothing : Prop :=
  ∀ (i : Instr) (s : State),
    (operandsOf i).src1 = none ∨ (operandsOf i).src1 = some 0 →
    (operandsOf i).src2 = none ∨ (operandsOf i).src2 = some 0 →
    controlOf s.params i = false →
    ∃ t, exec i s = .next t ∧ Issues s (operandsOf i).dest t ∧ t.report = .empty ∧
      t.metrics.rawHazardCount = s.metrics.rawHazardCount ∧ t.metrics.loadUseStalls = s.metrics.loadUseStalls ∧
      t.metrics.forwardCount = s.metrics.forwardCount ∧ t.metrics.branchStalls = s.metrics.branchStalls

/-! ## The cycle, for every instruction: what it changes and what it leaves -/

/-- R90 to R102, R133, R134: the whole frame of a cycle. It either issues or stalls, as this cycle's report says (slots,
scoreboard, fetch index, cycle, completion and stall counters, inputs); the report and the four hazard counters are what
the check makes them (log entries 11 and 12); the history and the terminal bit are as recorded (log entry 10). Together
these give every field of the state after, so nothing else changes. What a stall does to S[ID] is the policy's (log
entry 19). The last clause is about a done instance, to which `step` applies no cycle. -/
def Obligations.EveryCycleIssuesOrStalls : Prop :=
  ∀ (i : Instr) (s t : State), exec i s = .next t →
    ((t.report.stallRequired = false ∧ Issues s (operandsOf i).dest t) ∨
      (t.report.stallRequired = true ∧ Stalls s t)) ∧
    Checks s (operandsOf i) (controlOf s.params i) t ∧
    Recorded s t ∧
    (s.done = true → t.done = true)

/-- R93: step 2 copies EX to MEM and changes nothing else, and in every cycle, stalled or not, MEM ends as EX began. -/
def Obligations.MemoryStepCopiesExInEveryCycle : Prop :=
  (∀ s : State, memoryStep s = { s with sMEM := s.sEX }) ∧
  (∀ (i : Instr) (s t : State), exec i s = .next t → t.sMEM = s.sEX ∧ t.sWB = s.sMEM)

/-- R92: step 1 counts a valid S[WB] and clears its destination's entry, copies MEM to WB whether S[WB] is valid or not,
and changes nothing else; and the check of the same cycle sees a register available whose producer completes in it. -/
def Obligations.WritebackCountsClearsAndCopies : Prop :=
  (∀ s : State, s.sWB.valid = true →
    writebackStep s = { s with
      metrics.totalInstructionsCompleted := s.metrics.totalInstructionsCompleted + 1,
      sb := (writebackStep s).sb, sWB := s.sMEM } ∧
    ∀ r, (writebackStep s).sb.read r = if s.sWB.dest = some r then none else s.sb.read r) ∧
  (∀ s : State, s.sWB.valid = false → writebackStep s = { s with sWB := s.sMEM }) ∧
  (∀ (s : State) (r : RegIdx) (fwd exLoad : Bool) (c : Check), s.sWB.valid = true → s.sWB.dest = some r →
    checkOperand fwd exLoad (drainStages s).sb (some r) c = some c)

/-- R134, R135: when a valid instruction with destination `r` leaves WB, the entry of `r` is free after the cycle unless
the instruction that enters EX marks it, whoever had set it. -/
def Obligations.WritebackClearsWhoeverMarked : Prop :=
  ∀ (i : Instr) (s t : State) (r : RegIdx), exec i s = .next t →
    s.sWB.valid = true → s.sWB.dest = some r →
    t.report.stallRequired = true ∨ (operandsOf i).dest ≠ some r →
    t.sb.read r = none

/-- R158: the history is a hard ceiling. Below 50 entries a cycle appends one, at 50 it records nothing and overwrites
nothing; and the history never influences the run: with any other history in its place the cycle is the same but for
the history. -/
def Obligations.HistoryIsAHardCeilingWithoutInfluence : Prop :=
  ∀ (i : Instr) (s t : State), exec i s = .next t →
    (s.history.length < 50 → ∃ e, t.history = s.history ++ [e]) ∧
    (50 ≤ s.history.length → t.history = s.history) ∧
    (∀ h : List HistoryEntry, ∃ h', exec i (s.withHistory h) = .next (t.withHistory h'))

/-- R157 (the spec's decision D16, log entry 10): the entry a cycle appends is the state it leaves, sampled at its end; and
the terminal bit is set exactly by R101 and R102. -/
def Obligations.CycleRecordsItselfAndEndsTheRun : Prop :=
  ∀ (i : Instr) (s t : State), exec i s = .next t → Recorded s t

/-! ## The step and reset -/

/-- R90, R91, R96: in a run that is not over, the step is the cycle of the instruction that the word in ID decodes to. -/
def Obligations.StepRunsTheStandingInstruction : Prop :=
  ∀ s : State, s.done = false → s.sID.operands = operandsOf (decodeInstr s.params s.sID.word) →
    step s = exec (decodeInstr s.params s.sID.word) s

/-- The model's way to start one instruction (log entry 1): the word is the one the next step runs, whatever the state. -/
def Obligations.PlacedWordIsRunByTheNextStep : Prop :=
  ∀ (s : State) (w : Word),
    step (s.withFetchWord 32 w.toNat) = exec (decodeInstr s.params w) (s.withFetchWord 32 w.toNat)

/-- R103, with the model's choice of the identity among the two the rule allows (log entry 6). -/
def Obligations.StepOnADoneInstanceChangesNothing : Prop :=
  ∀ s : State, s.done = true → step s = .next s

/-- The two grounds of a refused step (log entries 4 and 5): R128's codes, and operand fields in ID that are not the
decode of its word. No step faults. -/
def Obligations.StepIsRefusedOnlyOutsideTheSpec : Prop :=
  ∀ (s : State) (r : Refusal), step s = .refused r ↔
    s.done = false ∧
    ((s.sID.operands ≠ decode s.params s.sID.word ∧ r = .operandsNotDecoded) ∨
     (s.sID.operands = decode s.params s.sID.word ∧ ¬ CodesMeaningful (decodeInstr s.params s.sID.word) s
       ∧ r = .noForwardingSource))

/-- R29 (the spec's decision D10, log entry 8): what reset leaves, for every program and both configuration bits. -/
def Obligations.ResetLeavesTheResetTable : Prop :=
  ∀ (p : Params) (imem : List Word) (fwd bp : Bool),
    let s := State.resetWith p imem fwd bp
    s.sIF = Slot.bubble ∧ s.sID = Slot.bubble ∧ s.sEX = Slot.bubble ∧ s.sMEM = Slot.bubble ∧ s.sWB = Slot.bubble ∧
    (∀ r, s.sb.read r = none) ∧ s.fi = 0 ∧ s.report = ⟨false, .none, false, none⟩ ∧
    s.metrics = ⟨0, 0, 0, 0, 0, 0, 0⟩ ∧ s.history = [] ∧ s.done = false ∧
    s.imem = imem ∧ s.fwd = fwd ∧ s.bp = bp

/-- R192 (D26): reset may be applied to any state, and nothing of it survives but the machine's own parameters. -/
def Obligations.ResetForgetsTheRun : Prop :=
  ∀ (s u : State) (imem : List Word) (fwd bp : Bool), s.params = u.params →
    resetOp s imem fwd bp = resetOp u imem fwd bp ∧ resetOp s imem fwd bp = State.resetWith s.params imem fwd bp

/-- R194: the first cycle of a run changes `S[IF]`, `FI`, the cycle count and the history, and nothing else. The fetched
slot has no operands yet (the spec's decision D12, log entry 9). The one history entry, numbered 1 and sampled after
step 6, follows R100 and R157, which rest on the spec's decisions D14 and D16 (log entry 10). -/
def Obligations.FirstCycleOnlyFetches : Prop :=
  ∀ (p : Params) (w : Word) (rest : List Word) (fwd bp : Bool),
    let s := State.resetWith p (w :: rest) fwd bp
    step s = .next { s with
      sIF := Slot.fetched w (BitVec.ofNat 32 p.pcBase), fi := 1,
      metrics := { Metrics.zero with totalCycles := 1 },
      history := [⟨1, ⟨w, 0#32, 0#32, 0#32, 0#32⟩, .none, false, false⟩] }

/-! ## Invariants: every step keeps them -/

/-- They hold after reset, for every program and configuration. -/
def Obligations.ResetMeetsTheInvariants : Prop :=
  ∀ (p : Params) (imem : List Word) (fwd bp : Bool), RunInv (State.resetWith p imem fwd bp)

/-- R11: an invalid slot is a bubble. -/
def Obligations.StepKeepsTheSlotInvariant : Prop :=
  ∀ s t : State, SlotsInv s → step s = .next t → SlotsInv t

/-- R13: no operands in IF, and the decode of the word from ID on. -/
def Obligations.StepKeepsTheOperandFields : Prop :=
  ∀ s t : State, OperandsInv s → step s = .next t → OperandsInv t

/-- R15: `SB[0] = 0`, and every entry is 0 or 3. -/
def Obligations.StepKeepsTheScoreboardInvariant : Prop :=
  ∀ s t : State, ScoreboardInv s → step s = .next t → ScoreboardInv t

/-- R134: a busy register always has its producer in EX, MEM or WB. -/
def Obligations.StepKeepsAProducerForEveryBusyRegister : Prop :=
  ∀ s t : State, SlotsInv s → ProducerInv s → step s = .next t → ProducerInv t

/-- R105 (d), R27: once the pipeline has drained, every scoreboard entry is 0. -/
def Obligations.DrainedScoreboardIsClear : Prop :=
  ∀ s : State, SlotsInv s → ProducerInv s → drained s = true → ∀ r, s.sb.read r = none

/-- R16, R42: the fetch index never passes the end of the store. -/
def Obligations.StepKeepsTheFetchIndexInBounds : Prop :=
  ∀ s t : State, FetchInv s → step s = .next t → FetchInv t

/-- R17, R51: no step changes the program or the configuration, and the parameters are fixed. -/
def Obligations.StepKeepsTheInputs : Prop :=
  ∀ s t : State, step s = .next t → SameInputs s t

/-- R159: one entry per cycle up to 50, numbered from 1, and no entry is ever changed or removed. -/
def Obligations.StepKeepsTheHistoryShape : Prop :=
  ∀ s t : State, HistoryInv s → step s = .next t → HistoryInv t ∧ s.history <+: t.history

/-- R21, R161: the relations between the counters, with the stage occupancy of R107 that bounds the completions; and no
counter decreases. -/
def Obligations.StepKeepsTheCounterRelations : Prop :=
  ∀ s t : State, OccupancyInv s → CountersInv s → step s = .next t →
    OccupancyInv t ∧ CountersInv t ∧
    s.metrics.totalCycles ≤ t.metrics.totalCycles ∧
    s.metrics.totalInstructionsCompleted ≤ t.metrics.totalInstructionsCompleted ∧
    s.metrics.stallCycles ≤ t.metrics.stallCycles ∧ s.metrics.forwardCount ≤ t.metrics.forwardCount ∧
    s.metrics.branchStalls ≤ t.metrics.branchStalls ∧ s.metrics.loadUseStalls ≤ t.metrics.loadUseStalls ∧
    s.metrics.rawHazardCount ≤ t.metrics.rawHazardCount

/-- R105 (a), R106 (a): every fetched instruction is in flight, completed, or (policy BUBBLE only) discarded by one
stalled cycle. -/
def Obligations.StepKeepsTheInstructionAccount : Prop :=
  ∀ s t : State, SlotsInv s → AccountInv s → step s = .next t → AccountInv t

/-- R102: the cycle count never passes 500, and a run that reaches it is over. -/
def Obligations.StepKeepsTheCycleCap : Prop :=
  ∀ s t : State, CapInv s → step s = .next t → CapInv t

/-- R105 (b): under the policy BUBBLE the cycle after a stalled one does not stall, from any state. -/
def Obligations.StalledCyclesAreNeverConsecutive : Prop :=
  ∀ s t u : State, s.params.stallIdPolicy = .bubble → s.done = false → step s = .next t →
    t.report.stallRequired = true → t.done = false → step t = .next u → u.report.stallRequired = false

/-- R106 (d): under the policy HOLD with prediction disabled a control-class instruction stands in ID for ever: the step
stalls and leaves ID, IF and the fetch index as they are. -/
def Obligations.HeldControlWordNeverLeavesId : Prop :=
  ∀ s : State, s.params.stallIdPolicy = .hold → s.bp = false → s.done = false →
    s.sID.operands = decode s.params s.sID.word → ScoreboardInv s → isControl s.params s.sID.word = true →
    ∃ t, step s = .next t ∧ t.sID = s.sID ∧ t.sIF = s.sIF ∧ t.fi = s.fi ∧
      t.metrics.stallCycles = s.metrics.stallCycles + 1 ∧ t.metrics.branchStalls = s.metrics.branchStalls + 1

/-- R137, R139: an instruction that reads no register that the instruction in EX or the one in MEM writes has no data
hazard. -/
def Obligations.NoReadOfTheTwoAheadIsNoDataHazard : Prop :=
  ∀ s : State, SlotsInv s → ProducerInv s →
    (∀ r, r ≠ 0 → s.sID.src1 = some r ∨ s.sID.src2 = some r → s.sEX.dest ≠ some r ∧ s.sMEM.dest ≠ some r) →
    s.sID.operands = decode s.params s.sID.word → s.done = false →
    ∃ t, step s = .next t ∧ t.metrics.rawHazardCount = s.metrics.rawHazardCount ∧
      t.metrics.loadUseStalls = s.metrics.loadUseStalls ∧ t.metrics.forwardCount = s.metrics.forwardCount ∧
      (isControl s.params s.sID.word = false ∨ s.bp = true → t.report.stallRequired = false)

/-! ## Runs -/

/-- R170, R179: from a state that meets the invariants a step always has a successor that meets them; nothing in a run is
refused and nothing faults. A done state is among them: that its step has a successor, itself, is the model's choice
(log entry 6), where the spec has successors until done. -/
def Obligations.EveryStateOfARunHasASuccessor : Prop :=
  ∀ s : State, RunInv s → ∃ t, step s = .next t ∧ RunInv t

/-- R102, R173: whatever the program and the configuration, the run is over after at most 500 cycles. It takes
500 steps, of which those after the end are the identity (the model's choice, log entry 6). -/
def Obligations.EveryRunEndsWithinTheCap : Prop :=
  ∀ (p : Params) (imem : List Word) (fwd bp : Bool),
    ∃ t, RunsTo p imem fwd bp 500 t ∧ t.done = true ∧ t.metrics.totalCycles ≤ 500 ∧ RunInv t

/-- R104, R155, R160: `simulate` answers for every input, with the bundle of the terminal state of the run from reset
with that input. Its history has one entry per cycle up to 50; its CPI is the guarded ratio, at least 1 whenever an
instruction completed (the exact pair is the spec's decision D18, log entry 14). That `simulate` is 500 steps, those
past the end being the identity, is the model's form of R104 (log entries 6 and 24). -/
def Obligations.SimulateAnswersWithASoundResult : Prop :=
  ∀ (p : Params) (imem : List Word) (fwd bp : Bool),
    ∃ t r, RunsTo p imem fwd bp 500 t ∧ t.done = true ∧ simulate p imem fwd bp = some r ∧ r = bundle t ∧
      1 ≤ r.metrics.totalCycles ∧ r.metrics.totalCycles ≤ 500 ∧
      r.history.length = min r.metrics.totalCycles 50 ∧
      r.cpi.num = r.metrics.totalCycles ∧
      (r.metrics.totalInstructionsCompleted = 0 → r.cpi.den = 1) ∧
      (0 < r.metrics.totalInstructionsCompleted →
        r.cpi.den = r.metrics.totalInstructionsCompleted ∧ r.cpi.den + 5 ≤ r.cpi.num)

/-- R105 (c), R106 (a): when a run drains, every supplied instruction has completed but those that a stalled cycle
discarded, and HOLD discards none. -/
def Obligations.DrainedRunCompletesAllButTheDiscarded : Prop :=
  ∀ (p : Params) (imem : List Word) (fwd bp : Bool) (k : Nat) (t : State),
    RunsTo p imem fwd bp k t → drained t = true →
    (p.stallIdPolicy = .bubble →
      t.metrics.totalInstructionsCompleted + t.metrics.stallCycles = imem.length) ∧
    (p.stallIdPolicy = .hold → t.metrics.totalInstructionsCompleted = imem.length)

/-- R105 (c), R203: under the policy BUBBLE no run takes more than `2N + 5` cycles. -/
def Obligations.BubbleRunTakesAtMostTwiceTheProgram : Prop :=
  ∀ (p : Params) (imem : List Word) (fwd bp : Bool) (k : Nat) (t : State),
    p.stallIdPolicy = .bubble → RunsTo p imem fwd bp k t → t.metrics.totalCycles ≤ 2 * imem.length + 5

/-- R101, R137, R201, R203: a program in which no instruction reads a register written by either of the two before it,
and whose control-class words are predicted, runs in `N + 5` cycles, completes all its instructions, and sees no data
hazard and no stall, forwarding or not and under either policy. -/
def Obligations.ProgramWithoutReuseRunsWithoutHazards : Prop :=
  ∀ (p : Params) (imem : List Word) (fwd bp : Bool), NoReuse p imem → NoControl p imem ∨ bp = true →
    1 ≤ imem.length → imem.length ≤ 495 →
    ∃ t, RunsTo p imem fwd bp (imem.length + 5) t ∧ t.done = true ∧ drained t = true ∧
      t.metrics.totalCycles = imem.length + 5 ∧ t.metrics.totalInstructionsCompleted = imem.length ∧
      t.metrics.rawHazardCount = 0 ∧ t.metrics.loadUseStalls = 0 ∧ t.metrics.forwardCount = 0 ∧
      t.metrics.stallCycles = 0

/-! ## The result -/

/-- R160, R162, R191: the operation `result` answers exactly when the run is over, and then with the counters, the CPI
pair, the history, the five slots and the last report of that state, and nothing else (the pair is the spec's decision
D18, log entry 14). -/
def Obligations.ResultAnswersExactlyWhenDone : Prop :=
  (∀ s : State, result s = none ↔ s.done = false) ∧
  (∀ (s : State) (r : SimulationResult), result s = some r ↔
    s.done = true ∧ r.metrics = s.metrics ∧
    r.cpi = ⟨s.metrics.totalCycles,
      if s.metrics.totalInstructionsCompleted = 0 then 1 else s.metrics.totalInstructionsCompleted⟩ ∧
    r.history = s.history ∧
    r.finalIF = s.sIF ∧ r.finalID = s.sID ∧ r.finalEX = s.sEX ∧ r.finalMEM = s.sMEM ∧ r.finalWB = s.sWB ∧
    r.lastReport = s.report)
end

