-- ==== Sys2Proof/Laws/Decode.lean ====
section
/-! SUPPORT. The fields of an assembled word, and a word put together from its own fields. -/

namespace Sys2Proof

/-! ## Each field as a number -/

theorem opField_toNat (w : Word) : (opField w).toNat = w.toNat / 67108864 % 64 := by
  simp [opField, Nat.shiftRight_eq_div_pow]
theorem faField_val (w : Word) : (faField w).val = w.toNat / 2097152 % 32 := by
  simp [faField, Nat.shiftRight_eq_div_pow]
theorem fbField_val (w : Word) : (fbField w).val = w.toNat / 65536 % 32 := by
  simp [fbField, Nat.shiftRight_eq_div_pow]
theorem fcField_val (w : Word) : (fcField w).val = w.toNat / 2048 % 32 := by
  simp [fcField, Nat.shiftRight_eq_div_pow]
theorem shField_toNat (w : Word) : (shField w).toNat = w.toNat / 64 % 32 := by
  simp [shField, Nat.shiftRight_eq_div_pow]
theorem fnField_toNat (w : Word) : (fnField w).toNat = w.toNat % 64 := by
  simp [fnField]
theorem lowField_toNat (w : Word) : (lowField w).toNat = w.toNat % 65536 := by
  simp [lowField]
theorem targetField_toNat (w : Word) : (targetField w).toNat = w.toNat % 67108864 := by
  simp [targetField]

theorem iWord_toNat (op : BitVec 6) (fa fb : RegIdx) (low : BitVec 16) :
    (iWord op fa fb low).toNat
      = (op.toNat * 67108864 + fa.val * 2097152 + fb.val * 65536 + low.toNat) % 4294967296 := by
  simp [iWord]
theorem specialLow_toNat (fc : RegIdx) (sh : BitVec 5) (fn : BitVec 6) :
    (specialLow fc sh fn).toNat = (fc.val * 2048 + sh.toNat * 64 + fn.toNat) % 65536 := by
  simp [specialLow]
theorem jWord_toNat (op : BitVec 6) (target : BitVec 26) :
    (jWord op target).toNat = (op.toNat * 67108864 + target.toNat) % 4294967296 := by
  simp [jWord]

/-! ## The same facts about plain numbers -/

theorem nat_iWord_op (a b c d : Nat) (_ : a < 64) (_ : b < 32) (_ : c < 32) (_ : d < 65536) :
    (a * 67108864 + b * 2097152 + c * 65536 + d) % 4294967296 / 67108864 % 64 = a := by omega
theorem nat_iWord_fa (a b c d : Nat) (_ : a < 64) (_ : b < 32) (_ : c < 32) (_ : d < 65536) :
    (a * 67108864 + b * 2097152 + c * 65536 + d) % 4294967296 / 2097152 % 32 = b := by omega
theorem nat_iWord_fb (a b c d : Nat) (_ : a < 64) (_ : b < 32) (_ : c < 32) (_ : d < 65536) :
    (a * 67108864 + b * 2097152 + c * 65536 + d) % 4294967296 / 65536 % 32 = c := by omega
theorem nat_iWord_low (a b c d : Nat) (_ : a < 64) (_ : b < 32) (_ : c < 32) (_ : d < 65536) :
    (a * 67108864 + b * 2097152 + c * 65536 + d) % 4294967296 % 65536 = d := by omega
theorem nat_special_fc (b c d : Nat) (_ : b < 32) (_ : c < 32) (_ : d < 64) :
    (b * 2048 + c * 64 + d) % 65536 / 2048 % 32 = b := by omega
theorem nat_special_sh (b c d : Nat) (_ : b < 32) (_ : c < 32) (_ : d < 64) :
    (b * 2048 + c * 64 + d) % 65536 / 64 % 32 = c := by omega
theorem nat_special_fn (b c d : Nat) (_ : b < 32) (_ : c < 32) (_ : d < 64) :
    (b * 2048 + c * 64 + d) % 65536 % 64 = d := by omega
theorem nat_jWord_op (a d : Nat) (_ : a < 64) (_ : d < 67108864) :
    (a * 67108864 + d) % 4294967296 / 67108864 % 64 = a := by omega
theorem nat_jWord_target (a d : Nat) (_ : a < 64) (_ : d < 67108864) :
    (a * 67108864 + d) % 4294967296 % 67108864 = d := by omega
theorem nat_word_fields (w : Nat) (_ : w < 4294967296) :
    (w / 67108864 % 64 * 67108864 + w / 2097152 % 32 * 2097152 + w / 65536 % 32 * 65536 + w % 65536) % 4294967296
      = w := by omega
theorem nat_low_fields (w : Nat) :
    (w / 2048 % 32 * 2048 + w / 64 % 32 * 64 + w % 64) % 65536 = w % 65536 := by omega
theorem nat_target_fields (w : Nat) (_ : w < 4294967296) :
    (w / 67108864 % 64 * 67108864 + w % 67108864) % 4294967296 = w := by omega

/-! ## The fields of an assembled word -/

@[simp] theorem opField_iWord (op : BitVec 6) (fa fb : RegIdx) (low : BitVec 16) :
    opField (iWord op fa fb low) = op := by
  apply BitVec.eq_of_toNat_eq
  rw [opField_toNat, iWord_toNat]
  exact nat_iWord_op _ _ _ _ op.isLt fa.isLt fb.isLt low.isLt
@[simp] theorem faField_iWord (op : BitVec 6) (fa fb : RegIdx) (low : BitVec 16) :
    faField (iWord op fa fb low) = fa := by
  apply Fin.ext
  rw [faField_val, iWord_toNat]
  exact nat_iWord_fa _ _ _ _ op.isLt fa.isLt fb.isLt low.isLt
@[simp] theorem fbField_iWord (op : BitVec 6) (fa fb : RegIdx) (low : BitVec 16) :
    fbField (iWord op fa fb low) = fb := by
  apply Fin.ext
  rw [fbField_val, iWord_toNat]
  exact nat_iWord_fb _ _ _ _ op.isLt fa.isLt fb.isLt low.isLt
@[simp] theorem lowField_iWord (op : BitVec 6) (fa fb : RegIdx) (low : BitVec 16) :
    lowField (iWord op fa fb low) = low := by
  apply BitVec.eq_of_toNat_eq
  rw [lowField_toNat, iWord_toNat]
  exact nat_iWord_low _ _ _ _ op.isLt fa.isLt fb.isLt low.isLt

theorem nat_mod_low_div (w : Nat) : w % 65536 / 2048 % 32 = w / 2048 % 32 := by omega
theorem nat_mod_low_sh (w : Nat) : w % 65536 / 64 % 32 = w / 64 % 32 := by omega
theorem nat_mod_low_fn (w : Nat) : w % 65536 % 64 = w % 64 := by omega

/-- FC lies in the low sixteen bits. -/
theorem fcField_low (w : Word) : (fcField w).val = (lowField w).toNat / 2048 % 32 := by
  rw [fcField_val, lowField_toNat, nat_mod_low_div]
theorem shField_low (w : Word) : (shField w).toNat = (lowField w).toNat / 64 % 32 := by
  rw [shField_toNat, lowField_toNat, nat_mod_low_sh]
theorem fnField_low (w : Word) : (fnField w).toNat = (lowField w).toNat % 64 := by
  rw [fnField_toNat, lowField_toNat, nat_mod_low_fn]

@[simp] theorem fcField_specialWord (fa fb fc : RegIdx) (sh : BitVec 5) (fn : BitVec 6) :
    fcField (specialWord fa fb fc sh fn) = fc := by
  apply Fin.ext
  rw [fcField_low, specialWord, lowField_iWord, specialLow_toNat]
  exact nat_special_fc _ _ _ fc.isLt sh.isLt fn.isLt
@[simp] theorem shField_specialWord (fa fb fc : RegIdx) (sh : BitVec 5) (fn : BitVec 6) :
    shField (specialWord fa fb fc sh fn) = sh := by
  apply BitVec.eq_of_toNat_eq
  rw [shField_low, specialWord, lowField_iWord, specialLow_toNat]
  exact nat_special_sh _ _ _ fc.isLt sh.isLt fn.isLt
@[simp] theorem fnField_specialWord (fa fb fc : RegIdx) (sh : BitVec 5) (fn : BitVec 6) :
    fnField (specialWord fa fb fc sh fn) = fn := by
  apply BitVec.eq_of_toNat_eq
  rw [fnField_low, specialWord, lowField_iWord, specialLow_toNat]
  exact nat_special_fn _ _ _ fc.isLt sh.isLt fn.isLt
@[simp] theorem opField_specialWord (fa fb fc : RegIdx) (sh : BitVec 5) (fn : BitVec 6) :
    opField (specialWord fa fb fc sh fn) = 0#6 := opField_iWord _ _ _ _
@[simp] theorem faField_specialWord (fa fb fc : RegIdx) (sh : BitVec 5) (fn : BitVec 6) :
    faField (specialWord fa fb fc sh fn) = fa := faField_iWord _ _ _ _
@[simp] theorem fbField_specialWord (fa fb fc : RegIdx) (sh : BitVec 5) (fn : BitVec 6) :
    fbField (specialWord fa fb fc sh fn) = fb := fbField_iWord _ _ _ _

@[simp] theorem opField_jWord (op : BitVec 6) (target : BitVec 26) : opField (jWord op target) = op := by
  apply BitVec.eq_of_toNat_eq
  rw [opField_toNat, jWord_toNat]
  exact nat_jWord_op _ _ op.isLt target.isLt
@[simp] theorem targetField_jWord (op : BitVec 6) (target : BitVec 26) : targetField (jWord op target) = target := by
  apply BitVec.eq_of_toNat_eq
  rw [targetField_toNat, jWord_toNat]
  exact nat_jWord_target _ _ op.isLt target.isLt

/-! ## A word is the assembly of its own fields -/

theorem iWord_fields (w : Word) : iWord (opField w) (faField w) (fbField w) (lowField w) = w := by
  apply BitVec.eq_of_toNat_eq
  rw [iWord_toNat, opField_toNat, faField_val, fbField_val, lowField_toNat]
  exact nat_word_fields _ w.isLt
theorem specialLow_fields (w : Word) : specialLow (fcField w) (shField w) (fnField w) = lowField w := by
  apply BitVec.eq_of_toNat_eq
  rw [specialLow_toNat, fcField_val, shField_toNat, fnField_toNat, lowField_toNat]
  exact nat_low_fields _
theorem specialWord_fields (w : Word) (h : opField w = 0#6) :
    specialWord (faField w) (fbField w) (fcField w) (shField w) (fnField w) = w := by
  rw [specialWord, specialLow_fields, ← h]
  exact iWord_fields w
theorem jWord_fields (w : Word) : jWord (opField w) (targetField w) = w := by
  apply BitVec.eq_of_toNat_eq
  rw [jWord_toNat, opField_toNat, targetField_toNat]
  exact nat_target_fields _ w.isLt

/-- A word of another opcode is not the ZERO word. -/
theorem ne_zero_of_opField (w : Word) (h : opField w ≠ 0#6) : w ≠ 0#32 := by
  rintro rfl
  exact h (by decide)

/-- `decodeInstr` on the three regions of the opcode map (R57). -/
theorem decodeInstr_zero (p : Params) : decodeInstr p 0#32 = .zero := by simp [decodeInstr]
theorem decodeInstr_special (p : Params) (w : Word) (h0 : w ≠ 0#32) (h : opField w = 0#6) :
    decodeInstr p w = decodeSpecial p (faField w) (fbField w) (fcField w) (shField w) (fnField w) := by
  rw [decodeInstr, if_neg h0, if_pos h]
theorem decodeInstr_opcode (p : Params) (w : Word) (h : opField w ≠ 0#6) :
    decodeInstr p w = decodeOpcode (opField w).toNat (faField w) (fbField w) (lowField w) (targetField w) := by
  rw [decodeInstr, if_neg (ne_zero_of_opField w h), if_neg h]

/-! ## The map of R59, opcode by opcode -/

theorem encode_decodeOpcode (p : Params) (op : BitVec 6) (h : op ≠ 0#6) (fa fb : RegIdx) (low : BitVec 16)
    (tg : BitVec 26) :
    encode p (decodeOpcode op.toNat fa fb low tg) = if op = 2#6 ∨ op = 3#6 then jWord op tg else iWord op fa fb low := by
  obtain ⟨n, hn, rfl⟩ : ∃ n, n < 64 ∧ op = BitVec.ofNat 6 n := ⟨op.toNat, op.isLt, by simp⟩
  interval_cases n <;>
    first | exact absurd (by decide) h | (rw [if_pos (by decide)]; rfl) | (rw [if_neg (by decide)]; rfl)

theorem wf_decodeOpcode (p : Params) (op : BitVec 6) (fa fb : RegIdx) (low : BitVec 16) (tg : BitVec 26) :
    (decodeOpcode op.toNat fa fb low tg).wf p = true := by
  obtain ⟨n, hn, rfl⟩ : ∃ n, n < 64 ∧ op = BitVec.ofNat 6 n := ⟨op.toNat, op.isLt, by simp⟩
  interval_cases n <;> rfl

theorem cls_decodeOpcode (op : BitVec 6) (h : op ≠ 0#6) (fa fb : RegIdx) (low : BitVec 16) (tg : BitVec 26) :
    (decodeOpcode op.toNat fa fb low tg).cls =
      if op = 2#6 then .jump else if op = 3#6 then .jumplink
      else if 4 ≤ op.toNat ∧ op.toNat ≤ 7 then .branch
      else if 32 ≤ op.toNat ∧ op.toNat ≤ 37 then .load
      else if 40 ≤ op.toNat ∧ op.toNat ≤ 43 then .store else .imm := by
  obtain ⟨n, hn, rfl⟩ : ∃ n, n < 64 ∧ op = BitVec.ofNat 6 n := ⟨op.toNat, op.isLt, by simp⟩
  interval_cases n <;> first | exact absurd (by decide) h | rfl

/-- The five bit groups of an opcode-0 word are all zero exactly when the word is. -/
theorem specialNonzero_iff (fa fb fc : RegIdx) (sh : BitVec 5) (fn : BitVec 6) :
    specialNonzero fa fb fc sh fn = true ↔ specialWord fa fb fc sh fn ≠ 0#32 := by
  constructor
  · intro h he
    have e1 := congrArg faField he
    have e2 := congrArg fbField he
    have e3 := congrArg fcField he
    have e4 := congrArg shField he
    have e5 := congrArg fnField he
    simp only [faField_specialWord, fbField_specialWord, fcField_specialWord, shField_specialWord,
      fnField_specialWord] at e1 e2 e3 e4 e5
    subst e1 e2 e3 e4 e5
    revert h; decide
  · intro h
    unfold specialNonzero
    by_contra hc
    simp at hc
    obtain ⟨⟨⟨⟨rfl, rfl⟩, rfl⟩, rfl⟩, rfl⟩ := hc
    exact h (by decide)

end Sys2Proof
end

