-- ==== Sys2Proof/Laws/State.lean ====
section
/-! SUPPORT. One lemma per field of State per operation on the state. The first part says what an operation leaves as it
was; the second says what each field becomes in `drainStages` and in `advance`, which together are a cycle. -/

namespace Sys2Proof.Machine

/-! ### countCycle -/

@[simp] theorem countCycle_sIF (s : State) : (countCycle s).sIF = s.sIF := rfl
@[simp] theorem countCycle_sID (s : State) : (countCycle s).sID = s.sID := rfl
@[simp] theorem countCycle_sEX (s : State) : (countCycle s).sEX = s.sEX := rfl
@[simp] theorem countCycle_sMEM (s : State) : (countCycle s).sMEM = s.sMEM := rfl
@[simp] theorem countCycle_sWB (s : State) : (countCycle s).sWB = s.sWB := rfl
@[simp] theorem countCycle_sb (s : State) : (countCycle s).sb = s.sb := rfl
@[simp] theorem countCycle_fi (s : State) : (countCycle s).fi = s.fi := rfl
@[simp] theorem countCycle_report (s : State) : (countCycle s).report = s.report := rfl
@[simp] theorem countCycle_history (s : State) : (countCycle s).history = s.history := rfl
@[simp] theorem countCycle_done (s : State) : (countCycle s).done = s.done := rfl
@[simp] theorem countCycle_imem (s : State) : (countCycle s).imem = s.imem := rfl
@[simp] theorem countCycle_fwd (s : State) : (countCycle s).fwd = s.fwd := rfl
@[simp] theorem countCycle_bp (s : State) : (countCycle s).bp = s.bp := rfl
@[simp] theorem countCycle_params (s : State) : (countCycle s).params = s.params := rfl

/-! ### writebackStep -/

@[simp] theorem writebackStep_sIF (s : State) : (writebackStep s).sIF = s.sIF := by
  unfold writebackStep; repeat (first | rfl | split)
@[simp] theorem writebackStep_sID (s : State) : (writebackStep s).sID = s.sID := by
  unfold writebackStep; repeat (first | rfl | split)
@[simp] theorem writebackStep_sEX (s : State) : (writebackStep s).sEX = s.sEX := by
  unfold writebackStep; repeat (first | rfl | split)
@[simp] theorem writebackStep_sMEM (s : State) : (writebackStep s).sMEM = s.sMEM := by
  unfold writebackStep; repeat (first | rfl | split)
@[simp] theorem writebackStep_fi (s : State) : (writebackStep s).fi = s.fi := by
  unfold writebackStep; repeat (first | rfl | split)
@[simp] theorem writebackStep_report (s : State) : (writebackStep s).report = s.report := by
  unfold writebackStep; repeat (first | rfl | split)
@[simp] theorem writebackStep_history (s : State) : (writebackStep s).history = s.history := by
  unfold writebackStep; repeat (first | rfl | split)
@[simp] theorem writebackStep_done (s : State) : (writebackStep s).done = s.done := by
  unfold writebackStep; repeat (first | rfl | split)
@[simp] theorem writebackStep_imem (s : State) : (writebackStep s).imem = s.imem := by
  unfold writebackStep; repeat (first | rfl | split)
@[simp] theorem writebackStep_fwd (s : State) : (writebackStep s).fwd = s.fwd := by
  unfold writebackStep; repeat (first | rfl | split)
@[simp] theorem writebackStep_bp (s : State) : (writebackStep s).bp = s.bp := by
  unfold writebackStep; repeat (first | rfl | split)
@[simp] theorem writebackStep_params (s : State) : (writebackStep s).params = s.params := by
  unfold writebackStep; repeat (first | rfl | split)

/-! ### memoryStep -/

@[simp] theorem memoryStep_sIF (s : State) : (memoryStep s).sIF = s.sIF := rfl
@[simp] theorem memoryStep_sID (s : State) : (memoryStep s).sID = s.sID := rfl
@[simp] theorem memoryStep_sEX (s : State) : (memoryStep s).sEX = s.sEX := rfl
@[simp] theorem memoryStep_sWB (s : State) : (memoryStep s).sWB = s.sWB := rfl
@[simp] theorem memoryStep_sb (s : State) : (memoryStep s).sb = s.sb := rfl
@[simp] theorem memoryStep_fi (s : State) : (memoryStep s).fi = s.fi := rfl
@[simp] theorem memoryStep_report (s : State) : (memoryStep s).report = s.report := rfl
@[simp] theorem memoryStep_metrics (s : State) : (memoryStep s).metrics = s.metrics := rfl
@[simp] theorem memoryStep_history (s : State) : (memoryStep s).history = s.history := rfl
@[simp] theorem memoryStep_done (s : State) : (memoryStep s).done = s.done := rfl
@[simp] theorem memoryStep_imem (s : State) : (memoryStep s).imem = s.imem := rfl
@[simp] theorem memoryStep_fwd (s : State) : (memoryStep s).fwd = s.fwd := rfl
@[simp] theorem memoryStep_bp (s : State) : (memoryStep s).bp = s.bp := rfl
@[simp] theorem memoryStep_params (s : State) : (memoryStep s).params = s.params := rfl

/-! ### withCheck -/

@[simp] theorem withCheck_sIF (c : Check) (s : State) : (withCheck c s).sIF = s.sIF := rfl
@[simp] theorem withCheck_sID (c : Check) (s : State) : (withCheck c s).sID = s.sID := rfl
@[simp] theorem withCheck_sEX (c : Check) (s : State) : (withCheck c s).sEX = s.sEX := rfl
@[simp] theorem withCheck_sMEM (c : Check) (s : State) : (withCheck c s).sMEM = s.sMEM := rfl
@[simp] theorem withCheck_sWB (c : Check) (s : State) : (withCheck c s).sWB = s.sWB := rfl
@[simp] theorem withCheck_sb (c : Check) (s : State) : (withCheck c s).sb = s.sb := rfl
@[simp] theorem withCheck_fi (c : Check) (s : State) : (withCheck c s).fi = s.fi := rfl
@[simp] theorem withCheck_history (c : Check) (s : State) : (withCheck c s).history = s.history := rfl
@[simp] theorem withCheck_done (c : Check) (s : State) : (withCheck c s).done = s.done := rfl
@[simp] theorem withCheck_imem (c : Check) (s : State) : (withCheck c s).imem = s.imem := rfl
@[simp] theorem withCheck_fwd (c : Check) (s : State) : (withCheck c s).fwd = s.fwd := rfl
@[simp] theorem withCheck_bp (c : Check) (s : State) : (withCheck c s).bp = s.bp := rfl
@[simp] theorem withCheck_params (c : Check) (s : State) : (withCheck c s).params = s.params := rfl

/-! ### executeStep -/

@[simp] theorem executeStep_sIF (d : Operand) (s : State) : (executeStep d s).sIF = s.sIF := by
  unfold executeStep; repeat (first | rfl | split)
@[simp] theorem executeStep_sID (d : Operand) (s : State) : (executeStep d s).sID = s.sID := by
  unfold executeStep; repeat (first | rfl | split)
@[simp] theorem executeStep_sMEM (d : Operand) (s : State) : (executeStep d s).sMEM = s.sMEM := by
  unfold executeStep; repeat (first | rfl | split)
@[simp] theorem executeStep_sWB (d : Operand) (s : State) : (executeStep d s).sWB = s.sWB := by
  unfold executeStep; repeat (first | rfl | split)
@[simp] theorem executeStep_fi (d : Operand) (s : State) : (executeStep d s).fi = s.fi := by
  unfold executeStep; repeat (first | rfl | split)
@[simp] theorem executeStep_report (d : Operand) (s : State) : (executeStep d s).report = s.report := by
  unfold executeStep; repeat (first | rfl | split)
@[simp] theorem executeStep_metrics (d : Operand) (s : State) : (executeStep d s).metrics = s.metrics := by
  unfold executeStep; repeat (first | rfl | split)
@[simp] theorem executeStep_history (d : Operand) (s : State) : (executeStep d s).history = s.history := by
  unfold executeStep; repeat (first | rfl | split)
@[simp] theorem executeStep_done (d : Operand) (s : State) : (executeStep d s).done = s.done := by
  unfold executeStep; repeat (first | rfl | split)
@[simp] theorem executeStep_imem (d : Operand) (s : State) : (executeStep d s).imem = s.imem := by
  unfold executeStep; repeat (first | rfl | split)
@[simp] theorem executeStep_fwd (d : Operand) (s : State) : (executeStep d s).fwd = s.fwd := by
  unfold executeStep; repeat (first | rfl | split)
@[simp] theorem executeStep_bp (d : Operand) (s : State) : (executeStep d s).bp = s.bp := by
  unfold executeStep; repeat (first | rfl | split)
@[simp] theorem executeStep_params (d : Operand) (s : State) : (executeStep d s).params = s.params := by
  unfold executeStep; repeat (first | rfl | split)

/-! ### decodeStep -/

@[simp] theorem decodeStep_sIF (s : State) : (decodeStep s).sIF = s.sIF := by
  unfold decodeStep; repeat (first | rfl | split)
@[simp] theorem decodeStep_sEX (s : State) : (decodeStep s).sEX = s.sEX := by
  unfold decodeStep; repeat (first | rfl | split)
@[simp] theorem decodeStep_sMEM (s : State) : (decodeStep s).sMEM = s.sMEM := by
  unfold decodeStep; repeat (first | rfl | split)
@[simp] theorem decodeStep_sWB (s : State) : (decodeStep s).sWB = s.sWB := by
  unfold decodeStep; repeat (first | rfl | split)
@[simp] theorem decodeStep_sb (s : State) : (decodeStep s).sb = s.sb := by
  unfold decodeStep; repeat (first | rfl | split)
@[simp] theorem decodeStep_fi (s : State) : (decodeStep s).fi = s.fi := by
  unfold decodeStep; repeat (first | rfl | split)
@[simp] theorem decodeStep_report (s : State) : (decodeStep s).report = s.report := by
  unfold decodeStep; repeat (first | rfl | split)
@[simp] theorem decodeStep_metrics (s : State) : (decodeStep s).metrics = s.metrics := by
  unfold decodeStep; repeat (first | rfl | split)
@[simp] theorem decodeStep_history (s : State) : (decodeStep s).history = s.history := by
  unfold decodeStep; repeat (first | rfl | split)
@[simp] theorem decodeStep_done (s : State) : (decodeStep s).done = s.done := by
  unfold decodeStep; repeat (first | rfl | split)
@[simp] theorem decodeStep_imem (s : State) : (decodeStep s).imem = s.imem := by
  unfold decodeStep; repeat (first | rfl | split)
@[simp] theorem decodeStep_fwd (s : State) : (decodeStep s).fwd = s.fwd := by
  unfold decodeStep; repeat (first | rfl | split)
@[simp] theorem decodeStep_bp (s : State) : (decodeStep s).bp = s.bp := by
  unfold decodeStep; repeat (first | rfl | split)
@[simp] theorem decodeStep_params (s : State) : (decodeStep s).params = s.params := by
  unfold decodeStep; repeat (first | rfl | split)

/-! ### fetchStep -/

@[simp] theorem fetchStep_sID (s : State) : (fetchStep s).sID = s.sID := by
  unfold fetchStep; repeat (first | rfl | split)
@[simp] theorem fetchStep_sEX (s : State) : (fetchStep s).sEX = s.sEX := by
  unfold fetchStep; repeat (first | rfl | split)
@[simp] theorem fetchStep_sMEM (s : State) : (fetchStep s).sMEM = s.sMEM := by
  unfold fetchStep; repeat (first | rfl | split)
@[simp] theorem fetchStep_sWB (s : State) : (fetchStep s).sWB = s.sWB := by
  unfold fetchStep; repeat (first | rfl | split)
@[simp] theorem fetchStep_sb (s : State) : (fetchStep s).sb = s.sb := by
  unfold fetchStep; repeat (first | rfl | split)
@[simp] theorem fetchStep_report (s : State) : (fetchStep s).report = s.report := by
  unfold fetchStep; repeat (first | rfl | split)
@[simp] theorem fetchStep_metrics (s : State) : (fetchStep s).metrics = s.metrics := by
  unfold fetchStep; repeat (first | rfl | split)
@[simp] theorem fetchStep_history (s : State) : (fetchStep s).history = s.history := by
  unfold fetchStep; repeat (first | rfl | split)
@[simp] theorem fetchStep_done (s : State) : (fetchStep s).done = s.done := by
  unfold fetchStep; repeat (first | rfl | split)
@[simp] theorem fetchStep_imem (s : State) : (fetchStep s).imem = s.imem := by
  unfold fetchStep; repeat (first | rfl | split)
@[simp] theorem fetchStep_fwd (s : State) : (fetchStep s).fwd = s.fwd := by
  unfold fetchStep; repeat (first | rfl | split)
@[simp] theorem fetchStep_bp (s : State) : (fetchStep s).bp = s.bp := by
  unfold fetchStep; repeat (first | rfl | split)
@[simp] theorem fetchStep_params (s : State) : (fetchStep s).params = s.params := by
  unfold fetchStep; repeat (first | rfl | split)

/-! ### countStall -/

@[simp] theorem countStall_sIF (s : State) : (countStall s).sIF = s.sIF := by
  unfold countStall; repeat (first | rfl | split)
@[simp] theorem countStall_sID (s : State) : (countStall s).sID = s.sID := by
  unfold countStall; repeat (first | rfl | split)
@[simp] theorem countStall_sEX (s : State) : (countStall s).sEX = s.sEX := by
  unfold countStall; repeat (first | rfl | split)
@[simp] theorem countStall_sMEM (s : State) : (countStall s).sMEM = s.sMEM := by
  unfold countStall; repeat (first | rfl | split)
@[simp] theorem countStall_sWB (s : State) : (countStall s).sWB = s.sWB := by
  unfold countStall; repeat (first | rfl | split)
@[simp] theorem countStall_sb (s : State) : (countStall s).sb = s.sb := by
  unfold countStall; repeat (first | rfl | split)
@[simp] theorem countStall_fi (s : State) : (countStall s).fi = s.fi := by
  unfold countStall; repeat (first | rfl | split)
@[simp] theorem countStall_report (s : State) : (countStall s).report = s.report := by
  unfold countStall; repeat (first | rfl | split)
@[simp] theorem countStall_history (s : State) : (countStall s).history = s.history := by
  unfold countStall; repeat (first | rfl | split)
@[simp] theorem countStall_done (s : State) : (countStall s).done = s.done := by
  unfold countStall; repeat (first | rfl | split)
@[simp] theorem countStall_imem (s : State) : (countStall s).imem = s.imem := by
  unfold countStall; repeat (first | rfl | split)
@[simp] theorem countStall_fwd (s : State) : (countStall s).fwd = s.fwd := by
  unfold countStall; repeat (first | rfl | split)
@[simp] theorem countStall_bp (s : State) : (countStall s).bp = s.bp := by
  unfold countStall; repeat (first | rfl | split)
@[simp] theorem countStall_params (s : State) : (countStall s).params = s.params := by
  unfold countStall; repeat (first | rfl | split)

/-! ### recordHistory -/

@[simp] theorem recordHistory_sIF (s : State) : (recordHistory s).sIF = s.sIF := by
  unfold recordHistory; repeat (first | rfl | split)
@[simp] theorem recordHistory_sID (s : State) : (recordHistory s).sID = s.sID := by
  unfold recordHistory; repeat (first | rfl | split)
@[simp] theorem recordHistory_sEX (s : State) : (recordHistory s).sEX = s.sEX := by
  unfold recordHistory; repeat (first | rfl | split)
@[simp] theorem recordHistory_sMEM (s : State) : (recordHistory s).sMEM = s.sMEM := by
  unfold recordHistory; repeat (first | rfl | split)
@[simp] theorem recordHistory_sWB (s : State) : (recordHistory s).sWB = s.sWB := by
  unfold recordHistory; repeat (first | rfl | split)
@[simp] theorem recordHistory_sb (s : State) : (recordHistory s).sb = s.sb := by
  unfold recordHistory; repeat (first | rfl | split)
@[simp] theorem recordHistory_fi (s : State) : (recordHistory s).fi = s.fi := by
  unfold recordHistory; repeat (first | rfl | split)
@[simp] theorem recordHistory_report (s : State) : (recordHistory s).report = s.report := by
  unfold recordHistory; repeat (first | rfl | split)
@[simp] theorem recordHistory_metrics (s : State) : (recordHistory s).metrics = s.metrics := by
  unfold recordHistory; repeat (first | rfl | split)
@[simp] theorem recordHistory_done (s : State) : (recordHistory s).done = s.done := by
  unfold recordHistory; repeat (first | rfl | split)
@[simp] theorem recordHistory_imem (s : State) : (recordHistory s).imem = s.imem := by
  unfold recordHistory; repeat (first | rfl | split)
@[simp] theorem recordHistory_fwd (s : State) : (recordHistory s).fwd = s.fwd := by
  unfold recordHistory; repeat (first | rfl | split)
@[simp] theorem recordHistory_bp (s : State) : (recordHistory s).bp = s.bp := by
  unfold recordHistory; repeat (first | rfl | split)
@[simp] theorem recordHistory_params (s : State) : (recordHistory s).params = s.params := by
  unfold recordHistory; repeat (first | rfl | split)

/-! ### terminationCheck -/

@[simp] theorem terminationCheck_sIF (s : State) : (terminationCheck s).sIF = s.sIF := by
  unfold terminationCheck; repeat (first | rfl | split)
@[simp] theorem terminationCheck_sID (s : State) : (terminationCheck s).sID = s.sID := by
  unfold terminationCheck; repeat (first | rfl | split)
@[simp] theorem terminationCheck_sEX (s : State) : (terminationCheck s).sEX = s.sEX := by
  unfold terminationCheck; repeat (first | rfl | split)
@[simp] theorem terminationCheck_sMEM (s : State) : (terminationCheck s).sMEM = s.sMEM := by
  unfold terminationCheck; repeat (first | rfl | split)
@[simp] theorem terminationCheck_sWB (s : State) : (terminationCheck s).sWB = s.sWB := by
  unfold terminationCheck; repeat (first | rfl | split)
@[simp] theorem terminationCheck_sb (s : State) : (terminationCheck s).sb = s.sb := by
  unfold terminationCheck; repeat (first | rfl | split)
@[simp] theorem terminationCheck_fi (s : State) : (terminationCheck s).fi = s.fi := by
  unfold terminationCheck; repeat (first | rfl | split)
@[simp] theorem terminationCheck_report (s : State) : (terminationCheck s).report = s.report := by
  unfold terminationCheck; repeat (first | rfl | split)
@[simp] theorem terminationCheck_metrics (s : State) : (terminationCheck s).metrics = s.metrics := by
  unfold terminationCheck; repeat (first | rfl | split)
@[simp] theorem terminationCheck_history (s : State) : (terminationCheck s).history = s.history := by
  unfold terminationCheck; repeat (first | rfl | split)
@[simp] theorem terminationCheck_imem (s : State) : (terminationCheck s).imem = s.imem := by
  unfold terminationCheck; repeat (first | rfl | split)
@[simp] theorem terminationCheck_fwd (s : State) : (terminationCheck s).fwd = s.fwd := by
  unfold terminationCheck; repeat (first | rfl | split)
@[simp] theorem terminationCheck_bp (s : State) : (terminationCheck s).bp = s.bp := by
  unfold terminationCheck; repeat (first | rfl | split)
@[simp] theorem terminationCheck_params (s : State) : (terminationCheck s).params = s.params := by
  unfold terminationCheck; repeat (first | rfl | split)

/-! ### What each operation writes -/

@[simp] theorem countCycle_metrics (s : State) :
    (countCycle s).metrics = { s.metrics with totalCycles := s.metrics.totalCycles + 1 } := rfl
@[simp] theorem writebackStep_sWB (s : State) : (writebackStep s).sWB = s.sMEM := by
  unfold writebackStep; split <;> rfl
theorem writebackStep_sb (s : State) :
    (writebackStep s).sb = if s.sWB.valid then s.sb.clear s.sWB.dest else s.sb := by
  unfold writebackStep; split <;> rfl
theorem writebackStep_metrics (s : State) :
    (writebackStep s).metrics = { s.metrics with
      totalInstructionsCompleted := s.metrics.totalInstructionsCompleted + (if s.sWB.valid then 1 else 0) } := by
  unfold writebackStep; split <;> rfl
@[simp] theorem memoryStep_sMEM (s : State) : (memoryStep s).sMEM = s.sEX := rfl
@[simp] theorem withCheck_report (c : Check) (s : State) : (withCheck c s).report = c.report := rfl
@[simp] theorem withCheck_metrics (c : Check) (s : State) : (withCheck c s).metrics = c.metrics := rfl
theorem executeStep_sEX (d : Operand) (s : State) :
    (executeStep d s).sEX = if s.report.stallRequired then Slot.bubble else s.sID := by
  unfold executeStep; split <;> rfl
theorem executeStep_sb (d : Operand) (s : State) :
    (executeStep d s).sb = if s.report.stallRequired then s.sb else s.sb.mark d := by
  unfold executeStep; split <;> rfl
theorem decodeStep_sID (s : State) :
    (decodeStep s).sID = if s.report.stallRequired then
      (match s.params.stallIdPolicy with | .bubble => Slot.bubble | .hold => s.sID) else s.sIF.decoded s.params := by
  unfold decodeStep; split
  · cases h : s.params.stallIdPolicy <;> simp_all
  · simp_all
theorem fetchStep_sIF (s : State) :
    (fetchStep s).sIF = if s.report.stallRequired then s.sIF else
      (match s.imem[s.fi]? with | some w => Slot.fetched w (pcLabel s.params s.fi) | none => Slot.bubble) := by
  unfold fetchStep; split
  · simp_all
  · split <;> simp_all
theorem fetchStep_fi (s : State) :
    (fetchStep s).fi = if s.report.stallRequired then s.fi else
      (match s.imem[s.fi]? with | some _ => s.fi + 1 | none => s.fi) := by
  unfold fetchStep; split
  · simp_all
  · split <;> simp_all
theorem countStall_metrics (s : State) :
    (countStall s).metrics = { s.metrics with
      stallCycles := s.metrics.stallCycles + (if s.report.stallRequired then 1 else 0) } := by
  unfold countStall; split <;> rfl
theorem recordHistory_history (s : State) :
    (recordHistory s).history = if s.history.length < historyCap then s.history ++ [historyEntry s] else s.history := by
  unfold recordHistory; split <;> rfl
theorem terminationCheck_done (s : State) :
    (terminationCheck s).done = (s.done || drained s || s.metrics.totalCycles == cycleCap) := by
  unfold terminationCheck; split <;> simp_all [Bool.or_assoc]

/-! ### The fields after steps 1 and 2 -/

@[simp] theorem drainStages_sIF (s : State) : (drainStages s).sIF = s.sIF := by simp [drainStages]
@[simp] theorem drainStages_sID (s : State) : (drainStages s).sID = s.sID := by simp [drainStages]
@[simp] theorem drainStages_sEX (s : State) : (drainStages s).sEX = s.sEX := by simp [drainStages]
@[simp] theorem drainStages_fi (s : State) : (drainStages s).fi = s.fi := by simp [drainStages]
@[simp] theorem drainStages_report (s : State) : (drainStages s).report = s.report := by simp [drainStages]
@[simp] theorem drainStages_history (s : State) : (drainStages s).history = s.history := by simp [drainStages]
@[simp] theorem drainStages_done (s : State) : (drainStages s).done = s.done := by simp [drainStages]
@[simp] theorem drainStages_imem (s : State) : (drainStages s).imem = s.imem := by simp [drainStages]
@[simp] theorem drainStages_fwd (s : State) : (drainStages s).fwd = s.fwd := by simp [drainStages]
@[simp] theorem drainStages_bp (s : State) : (drainStages s).bp = s.bp := by simp [drainStages]
@[simp] theorem drainStages_params (s : State) : (drainStages s).params = s.params := by simp [drainStages]
@[simp] theorem drainStages_sMEM (s : State) : (drainStages s).sMEM = s.sEX := by simp [drainStages]
@[simp] theorem drainStages_sWB (s : State) : (drainStages s).sWB = s.sMEM := by simp [drainStages]
theorem drainStages_sb (s : State) :
    (drainStages s).sb = if s.sWB.valid then s.sb.clear s.sWB.dest else s.sb :=
  writebackStep_sb (countCycle s)
theorem drainStages_metrics (s : State) :
    (drainStages s).metrics = { s.metrics with
      totalCycles := s.metrics.totalCycles + 1,
      totalInstructionsCompleted := s.metrics.totalInstructionsCompleted + (if s.sWB.valid then 1 else 0) } :=
  writebackStep_metrics (countCycle s)

/-! ### The fields after steps 4 to 6, the stall count, the append and the termination check -/

@[simp] theorem advance_sMEM (d : Operand) (s : State) : (advance d s).sMEM = s.sMEM := by simp [advance]
@[simp] theorem advance_sWB (d : Operand) (s : State) : (advance d s).sWB = s.sWB := by simp [advance]
@[simp] theorem advance_report (d : Operand) (s : State) : (advance d s).report = s.report := by simp [advance]
@[simp] theorem advance_imem (d : Operand) (s : State) : (advance d s).imem = s.imem := by simp [advance]
@[simp] theorem advance_fwd (d : Operand) (s : State) : (advance d s).fwd = s.fwd := by simp [advance]
@[simp] theorem advance_bp (d : Operand) (s : State) : (advance d s).bp = s.bp := by simp [advance]
@[simp] theorem advance_params (d : Operand) (s : State) : (advance d s).params = s.params := by simp [advance]
theorem advance_sIF (d : Operand) (s : State) :
    (advance d s).sIF = if s.report.stallRequired then s.sIF else
      (match s.imem[s.fi]? with | some w => Slot.fetched w (pcLabel s.params s.fi) | none => Slot.bubble) := by
  simp [advance, fetchStep_sIF]
theorem advance_fi (d : Operand) (s : State) :
    (advance d s).fi = if s.report.stallRequired then s.fi else
      (match s.imem[s.fi]? with | some _ => s.fi + 1 | none => s.fi) := by
  simp [advance, fetchStep_fi]
theorem advance_sID (d : Operand) (s : State) :
    (advance d s).sID = if s.report.stallRequired then
      (match s.params.stallIdPolicy with | .bubble => Slot.bubble | .hold => s.sID) else s.sIF.decoded s.params := by
  simp [advance, decodeStep_sID]
theorem advance_sEX (d : Operand) (s : State) :
    (advance d s).sEX = if s.report.stallRequired then Slot.bubble else s.sID := by
  simp [advance, executeStep_sEX]
theorem advance_sb (d : Operand) (s : State) :
    (advance d s).sb = if s.report.stallRequired then s.sb else s.sb.mark d := by
  simp [advance, executeStep_sb]
theorem advance_metrics (d : Operand) (s : State) :
    (advance d s).metrics = { s.metrics with
      stallCycles := s.metrics.stallCycles + (if s.report.stallRequired then 1 else 0) } := by
  simp [advance, countStall_metrics]

/-- The entry the cycle appends, in terms of the state it ends in. -/
theorem advance_history (d : Operand) (s : State) :
    (advance d s).history = if s.history.length < historyCap then s.history ++ [historyEntry (advance d s)]
      else s.history := by
  unfold advance
  simp [recordHistory_history, historyEntry]

/-- The terminal bit the cycle sets, in terms of the state it ends in. -/
theorem advance_done (d : Operand) (s : State) :
    (advance d s).done = (s.done || drained (advance d s) || (advance d s).metrics.totalCycles == cycleCap) := by
  unfold advance
  simp [terminationCheck_done, drained]

/-! ### Slots -/

@[simp] theorem bubble_operands : Slot.bubble.operands = ⟨none, none, none⟩ := rfl
@[simp] theorem bubble_word : Slot.bubble.word = 0#32 := rfl
@[simp] theorem bubble_pc : Slot.bubble.pc = 0#32 := rfl
@[simp] theorem bubble_valid : Slot.bubble.valid = false := rfl
@[simp] theorem bubble_dest : Slot.bubble.dest = none := rfl
@[simp] theorem fetched_word (w pc : Word) : (Slot.fetched w pc).word = w := rfl
@[simp] theorem fetched_pc (w pc : Word) : (Slot.fetched w pc).pc = pc := rfl
@[simp] theorem fetched_valid (w pc : Word) : (Slot.fetched w pc).valid = true := rfl
@[simp] theorem fetched_operands (w pc : Word) : (Slot.fetched w pc).operands = ⟨none, none, none⟩ := rfl
@[simp] theorem decoded_word (p : Params) (x : Slot) : (x.decoded p).word = x.word := rfl
@[simp] theorem decoded_pc (p : Params) (x : Slot) : (x.decoded p).pc = x.pc := rfl
@[simp] theorem decoded_valid (p : Params) (x : Slot) : (x.decoded p).valid = x.valid := rfl
@[simp] theorem decoded_operands (p : Params) (x : Slot) : (x.decoded p).operands = decode p x.word := rfl
@[simp] theorem decode_zero (p : Params) : decode p 0#32 = ⟨none, none, none⟩ := by
  simp [decode, decodeInstr, operandsOf, zeroOperands]

/-! ### The scoreboard -/

@[simp] theorem read_write_same (sb : Scoreboard) (r : RegIdx) (e : Entry) : (sb.write r e).read r = e := by
  simp [Scoreboard.read, Scoreboard.write, Vector.get_eq_getElem]
theorem read_write (sb : Scoreboard) (r q : RegIdx) (e : Entry) :
    (sb.write r e).read q = if q = r then e else sb.read q := by
  by_cases h : q = r
  · subst h; simp
  · have : r.val ≠ q.val := fun h' => h (Fin.ext h'.symm)
    simp [Scoreboard.read, Scoreboard.write, Vector.get_eq_getElem, h, this]
theorem read_clear (sb : Scoreboard) (d : Operand) (q : RegIdx) :
    (sb.clear d).read q = if d = some q then none else sb.read q := by
  cases d with
  | none => simp [Scoreboard.clear]
  | some r => simp only [Scoreboard.clear, read_write, Option.some.injEq, eq_comm]
theorem read_mark (sb : Scoreboard) (d : Operand) (q : RegIdx) :
    (sb.mark d).read q = if d = some q ∧ q ≠ 0 then some .execute else sb.read q := by
  cases d with
  | none => simp [Scoreboard.mark]
  | some r =>
    by_cases h0 : r = 0
    · subst h0; by_cases hq : q = 0 <;> simp [Scoreboard.mark, hq, eq_comm]
    · by_cases hq : r = q
      · subst hq; simp [Scoreboard.mark, h0]
      · have : ¬ q = r := fun h => hq h.symm
        simp [Scoreboard.mark, h0, read_write, hq, this]
@[simp] theorem read_replicate (q : RegIdx) :
    Scoreboard.read (Vector.replicate 32 none) q = none := by
  simp [Scoreboard.read, Vector.get_eq_getElem]

/-- The scoreboard step 3 sees. -/
theorem read_drainStages (s : State) (r : RegIdx) : (drainStages s).sb.read r = entryAtCheck s r := by
  rw [drainStages_sb, entryAtCheck]
  by_cases hv : s.sWB.valid = true <;> simp [hv, read_clear]

/-! ### The history is written and never read by the rest of a cycle (R158) -/

theorem drainStages_withHistory (s : State) (h : List HistoryEntry) :
    drainStages (s.withHistory h) = (drainStages s).withHistory h := by
  by_cases hv : s.sWB.valid = true <;>
    simp [drainStages, memoryStep, writebackStep, countCycle, State.withHistory, hv]
theorem executeStep_withHistory (d : Operand) (s : State) (h : List HistoryEntry) :
    executeStep d (s.withHistory h) = (executeStep d s).withHistory h := by
  unfold executeStep; split <;> simp_all [State.withHistory]
theorem decodeStep_withHistory (s : State) (h : List HistoryEntry) :
    decodeStep (s.withHistory h) = (decodeStep s).withHistory h := by
  unfold decodeStep State.withHistory
  cases hs : s.report.stallRequired <;> cases hp : s.params.stallIdPolicy <;> simp
theorem fetchStep_withHistory (s : State) (h : List HistoryEntry) :
    fetchStep (s.withHistory h) = (fetchStep s).withHistory h := by
  unfold fetchStep State.withHistory
  cases hs : s.report.stallRequired <;> cases hw : s.imem[s.fi]? <;> simp
theorem countStall_withHistory (s : State) (h : List HistoryEntry) :
    countStall (s.withHistory h) = (countStall s).withHistory h := by
  unfold countStall State.withHistory
  cases hs : s.report.stallRequired <;> simp
theorem terminationCheck_withHistory (s : State) (h : List HistoryEntry) :
    terminationCheck (s.withHistory h) = (terminationCheck s).withHistory h := by
  have hd : drained (s.withHistory h) = drained s := rfl
  unfold terminationCheck
  rw [hd]
  show (if drained s || s.metrics.totalCycles == cycleCap then _ else _) = _
  split <;> rfl
theorem recordHistory_eq_withHistory (s : State) : ∃ h, recordHistory s = s.withHistory h := by
  unfold recordHistory; split
  · exact ⟨_, rfl⟩
  · exact ⟨s.history, rfl⟩
theorem withHistory_withHistory (s : State) (h h' : List HistoryEntry) :
    (s.withHistory h).withHistory h' = s.withHistory h' := rfl
theorem advance_withHistory (d : Operand) (s : State) (h : List HistoryEntry) :
    ∃ h', advance d (s.withHistory h) = (advance d s).withHistory h' := by
  unfold advance
  rw [executeStep_withHistory, decodeStep_withHistory, fetchStep_withHistory, countStall_withHistory]
  generalize countStall (fetchStep (decodeStep (executeStep d s))) = u
  obtain ⟨a, ha⟩ := recordHistory_eq_withHistory u
  obtain ⟨b, hb⟩ := recordHistory_eq_withHistory (u.withHistory h)
  rw [ha, hb, terminationCheck_withHistory, terminationCheck_withHistory, terminationCheck_withHistory]
  exact ⟨b, rfl⟩

end Sys2Proof.Machine
end

