-- ==== Sys2Proof/Laws/Ops.lean ====
section
/-! SUPPORT. For each shared operation, one lemma that says what it can do: an arm of `exec` is the cycle of its
instruction, a cycle answers next exactly when its check has a meaning, a step is the identity or such a cycle, and the
check does on each operand what `finding` says. -/

namespace Sys2Proof.Machine

/-- Every arm of `exec` is the cycle with its instruction's operands and control flag. -/
theorem exec_eq_cycle (i : Instr) (s : State) :
    exec i s = cycle (operandsOf i) (controlOf s.params i) s := by
  cases i <;> rfl

theorem cycle_eq_next (ops : Operands) (control : Bool) (s t : State) :
    cycle ops control s = .next t ↔
      ∃ c, hazardCheck ops control (drainStages s) = some c ∧ t = advance ops.dest (withCheck c (drainStages s)) := by
  unfold cycle
  cases hazardCheck ops control (drainStages s) with
  | none => simp
  | some c => simp [eq_comm]

theorem cycle_eq_refused (ops : Operands) (control : Bool) (s : State) (r : Refusal) :
    cycle ops control s = .refused r ↔
      hazardCheck ops control (drainStages s) = none ∧ r = .noForwardingSource := by
  unfold cycle
  cases hazardCheck ops control (drainStages s) with
  | none => simp [eq_comm]
  | some c => simp

/-- What `exec` can do when it answers next. -/
theorem exec_eq_next (i : Instr) (s t : State) :
    exec i s = .next t ↔
      ∃ c, hazardCheck (operandsOf i) (controlOf s.params i) (drainStages s) = some c
        ∧ t = advance (operandsOf i).dest (withCheck c (drainStages s)) := by
  rw [exec_eq_cycle, cycle_eq_next]

/-- What `step` can do when it answers next: nothing on a done instance, else the cycle of the instruction in ID. -/
theorem step_cases {s t : State} (h : step s = .next t) :
    (s.done = true ∧ t = s) ∨
    (s.done = false ∧ s.sID.operands = operandsOf (standing s) ∧ exec (standing s) s = .next t) := by
  unfold step at h
  split at h
  · exact .inl ⟨‹_›, by simpa using h.symm⟩
  · split at h
    · exact .inr ⟨by simpa using ‹¬s.done = true›, by simpa [operandsDecoded] using ‹operandsDecoded s = true›, h⟩
    · simp at h

/-- A step whose ID slot is decoded is `exec` of the instruction in ID. -/
theorem step_eq_exec {s : State} (hd : s.done = false) (ho : s.sID.operands = operandsOf (standing s)) :
    step s = exec (standing s) s := by
  simp [step, hd, operandsDecoded, ho]

theorem step_done {s : State} (hd : s.done = true) : step s = .next s := by
  simp [step, hd]

/-! ### The check, operand by operand -/

/-- What a finding does to the check. -/
def Finding.apply (f : Finding) (c : Check) : Option Check :=
  match f with
  | .nothing => some c
  | .loadUse => some c.hit.loadUse
  | .forwarded st r => some (c.hit.forward st r)
  | .rawStall => some c.hit.rawStall
  | .noMeaning => none

theorem checkBusy_finding (s : State) (st : Stage) (r : RegIdx) (c : Check) :
    checkBusy s.fwd (isLoad s.sEX.word) st r c =
      (if st = .execute ∧ isLoad s.sEX.word = true then Finding.loadUse
        else if s.fwd = false then .rawStall
        else if st = .execute ∨ st = .memory ∨ st = .writeback then .forwarded st r
        else .noMeaning).apply c := by
  unfold checkBusy
  by_cases hl : st = .execute ∧ isLoad s.sEX.word = true
  · rw [if_pos hl, if_pos hl]; rfl
  · rw [if_neg hl, if_neg hl]
    cases s.fwd <;> cases st <;> rfl

theorem checkOperand_finding (s : State) (o : Operand) (c : Check) :
    checkOperand s.fwd (isLoad s.sEX.word) (drainStages s).sb o c = (finding s o).apply c := by
  cases o with
  | none => rfl
  | some r =>
    unfold checkOperand finding
    by_cases h0 : r = 0
    · simp [h0, Finding.apply]
    · simp only [h0, if_false, read_drainStages]
      cases entryAtCheck s r with
      | none => rfl
      | some st => exact checkBusy_finding s st r c

/-- The whole check of R120, in terms of what is found on the two operands. -/
theorem hazardCheck_eq (ops : Operands) (control : Bool) (s : State) :
    hazardCheck ops control (drainStages s) =
      (((finding s ops.src1).apply ⟨.empty, (drainStages s).metrics, false⟩).bind (finding s ops.src2).apply).map
        (fun c => c.countRaw.control control s.bp) := by
  unfold hazardCheck detectHazards
  simp only [drainStages_fwd, drainStages_bp, drainStages_sEX, checkOperand_finding]
  cases (finding s ops.src1).apply ⟨.empty, (drainStages s).metrics, false⟩ with
  | none => rfl
  | some c1 =>
    simp only [Option.bind_some]
    cases (finding s ops.src2).apply c1 <;> rfl

/-- What a finding does to each part of the check. -/
theorem finding_apply_some {f : Finding} {c c' : Check} (h : f.apply c = some c') :
    f ≠ .noMeaning ∧ c'.dataHit = (c.dataHit || f.hazards) ∧
    c'.report.detected = (c.report.detected || f.hazards) ∧
    c'.report.kind = f.kind.getD c.report.kind ∧
    c'.report.stallRequired = (c.report.stallRequired || f.stalls) ∧
    c'.report.forward = f.record.or c.report.forward ∧
    c'.metrics = { c.metrics with
      loadUseStalls := c.metrics.loadUseStalls + f.loadUses,
      forwardCount := c.metrics.forwardCount + f.forwards } := by
  cases f <;> simp [Finding.apply] at h <;> subst h <;>
    simp [Finding.hazards, Finding.kind, Finding.stalls, Finding.record, Finding.loadUses, Finding.forwards,
      Check.hit, Check.loadUse, Check.forward, Check.rawStall]

theorem finding_apply_defined {f : Finding} (c : Check) (h : f ≠ .noMeaning) : ∃ c', f.apply c = some c' := by
  cases f <;> simp [Finding.apply] at *

/-- The counters a check leaves, from the two findings and the control flag (R124, R125, R126, R129). -/
def metricsFrom (m : Metrics) (f1 f2 : Finding) (control : Bool) : Metrics :=
  { m with
    rawHazardCount := m.rawHazardCount + (if f1.hazards || f2.hazards then 1 else 0),
    loadUseStalls := m.loadUseStalls + f1.loadUses + f2.loadUses,
    forwardCount := m.forwardCount + f1.forwards + f2.forwards,
    branchStalls := m.branchStalls + (if control then 1 else 0) }

/-- Everything a check with a meaning leaves. -/
theorem hazardCheck_some {ops : Operands} {control : Bool} {s : State} {c : Check}
    (h : hazardCheck ops control (drainStages s) = some c) :
    finding s ops.src1 ≠ .noMeaning ∧ finding s ops.src2 ≠ .noMeaning ∧
    c.report = reportFrom (finding s ops.src1) (finding s ops.src2) control s.bp ∧
    c.metrics = metricsFrom (drainStages s).metrics (finding s ops.src1) (finding s ops.src2) control := by
  rw [hazardCheck_eq, Option.map_eq_some_iff] at h
  obtain ⟨c2, h, rfl⟩ := h
  rw [Option.bind_eq_some_iff] at h
  obtain ⟨c1, h1, h2⟩ := h
  obtain ⟨n1, d1, e1, k1, s1, f1, m1⟩ := finding_apply_some h1
  obtain ⟨n2, d2, e2, k2, s2, f2, m2⟩ := finding_apply_some h2
  obtain ⟨⟨a1, a2, a3, a4⟩, m, dh⟩ := c2
  simp only at *
  subst d2 e2 k2 s2 f2 m2
  refine ⟨n1, n2, ?_, ?_⟩
  · simp only [d1, e1, k1, s1, f1]
    cases control <;> simp [Check.countRaw, Check.control, reportFrom,
      HazardReport.empty] <;> split <;> simp
  · simp only [d1, m1, metricsFrom]
    cases control <;> simp [Check.countRaw, Check.control] <;> split <;> simp_all

theorem hazardCheck_defined {ops : Operands} (control : Bool) {s : State}
    (h1 : finding s ops.src1 ≠ .noMeaning) (h2 : finding s ops.src2 ≠ .noMeaning) :
    ∃ c, hazardCheck ops control (drainStages s) = some c := by
  rw [hazardCheck_eq]
  obtain ⟨c1, e1⟩ := finding_apply_defined ⟨.empty, (drainStages s).metrics, false⟩ h1
  obtain ⟨c2, e2⟩ := finding_apply_defined c1 h2
  simp [e1, e2]

/-- Everything `exec` does when it answers next: the state after is `advance` over a check that reports and counts what
the two findings say. -/
theorem exec_next {i : Instr} {s t : State} (h : exec i s = .next t) :
    CodesMeaningful i s ∧
    t.report = reportFrom (finding s (operandsOf i).src1) (finding s (operandsOf i).src2) (controlOf s.params i) s.bp ∧
    ∃ c, c.report = t.report ∧
      c.metrics = metricsFrom (drainStages s).metrics (finding s (operandsOf i).src1) (finding s (operandsOf i).src2)
        (controlOf s.params i) ∧
      t = advance (operandsOf i).dest (withCheck c (drainStages s)) := by
  rw [exec_eq_next] at h
  obtain ⟨c, hc, rfl⟩ := h
  obtain ⟨n1, n2, r, m⟩ := hazardCheck_some hc
  exact ⟨⟨n1, n2⟩, by simpa using r, c, by simp, m, rfl⟩

/-- `exec` answers next when both operands have a meaning. -/
theorem exec_defined {i : Instr} {s : State} (h : CodesMeaningful i s) : ∃ t, exec i s = .next t := by
  obtain ⟨c, hc⟩ := hazardCheck_defined (controlOf s.params i) h.1 h.2
  exact ⟨_, (exec_eq_next _ _ _).2 ⟨c, hc, rfl⟩⟩

/-! ### What is found on an operand -/

@[simp] theorem finding_none (s : State) : finding s none = .nothing := rfl
@[simp] theorem finding_zero (s : State) : finding s (some 0) = .nothing := rfl
theorem finding_free {s : State} {r : RegIdx} (h : entryAtCheck s r = none) : finding s (some r) = .nothing := by
  by_cases h0 : r = 0 <;> simp [finding, h0, h]
theorem finding_busy {s : State} {r : RegIdx} {st : Stage} (h0 : r ≠ 0) (h : entryAtCheck s r = some st) :
    finding s (some r) =
      if st = .execute ∧ isLoad s.sEX.word = true then .loadUse
      else if s.fwd = false then .rawStall
      else if st = .execute ∨ st = .memory ∨ st = .writeback then .forwarded st r
      else .noMeaning := by
  simp only [finding, if_neg h0, h]
theorem entryAtCheck_or (s : State) (r : RegIdx) : entryAtCheck s r = none ∨ entryAtCheck s r = s.sb.read r := by
  unfold entryAtCheck; split <;> simp

/-- A scoreboard whose entries are 0 or 3 meets no code without a meaning (R15, R128). -/
theorem codesMeaningful_of_scoreboardInv {s : State} (h : ScoreboardInv s) (i : Instr) : CodesMeaningful i s := by
  have key : ∀ o, finding s o ≠ .noMeaning := by
    intro o
    cases o with
    | none => simp
    | some r =>
      by_cases h0 : r = 0
      · subst h0; simp
      rcases entryAtCheck_or s r with he | he
      · rw [finding_free he]; simp
      · rcases h.codes r with hc | hc <;> rw [hc] at he
        · rw [finding_free he]; simp
        · rw [finding_busy h0 he]; simp; split <;> (try simp); split <;> simp
  exact ⟨key _, key _⟩

/-! ### Runs -/

@[simp] theorem runSteps_zero (s : State) : runSteps 0 s = .next s := rfl
theorem runSteps_succ {s u : State} (h : step s = .next u) (k : Nat) : runSteps (k + 1) s = runSteps k u := by
  simp [runSteps, h]
theorem runSteps_done {s : State} (h : s.done = true) (k : Nat) : runSteps k s = .next s := by
  induction k with
  | zero => rfl
  | succ k ih => rw [runSteps_succ (step_done h), ih]

theorem result_done {s : State} (h : s.done = true) : result s = some (bundle s) := by simp [result, h]
theorem result_running {s : State} (h : s.done = false) : result s = none := by simp [result, h]
/-- `simulate` is the result of the state that the run leads to. -/
theorem simulate_of_runsTo {p : Params} {imem : List Word} {fwd bp : Bool} {t : State}
    (h : RunsTo p imem fwd bp cycleCap t) : simulate p imem fwd bp = result t := by
  have h' : runSteps cycleCap (State.resetWith p imem fwd bp) = .next t := h
  unfold simulate
  rw [h']

end Sys2Proof.Machine
end

