-- ==== Sys2Proof/Laws/PerInstr.lean ====
section
/-! SUPPORT. Facts about an instruction as syntax, one lemma per constructor. -/

namespace Sys2Proof.Laws.OpcodeField

/-- The word of an instruction carries its row's opcode in its top six bits (R55, R59). -/
def Statement (i : Instr) : Prop := ∀ p, opField (encode p i) = i.opcode

theorem zero : Statement .zero := fun _ => (by decide : opField 0#32 = 0#6)
theorem jr (fa fb fc : RegIdx) (sh : BitVec 5) : Statement (.jr fa fb fc sh) :=
  fun _ => opField_specialWord _ _ _ _ _
theorem jalr (fa fb fc : RegIdx) (sh : BitVec 5) : Statement (.jalr fa fb fc sh) :=
  fun _ => opField_specialWord _ _ _ _ _
theorem reg (fa fb fc : RegIdx) (sh : BitVec 5) (fn : BitVec 6) : Statement (.reg fa fb fc sh fn) :=
  fun _ => opField_specialWord _ _ _ _ _
theorem imm1 (fa fb : RegIdx) (low : BitVec 16) : Statement (.imm1 fa fb low) := fun _ => opField_iWord _ _ _ _
theorem jump (target : BitVec 26) : Statement (.jump target) := fun _ => opField_jWord _ _
theorem jumplink (target : BitVec 26) : Statement (.jumplink target) := fun _ => opField_jWord _ _
theorem branch4 (fa fb : RegIdx) (low : BitVec 16) : Statement (.branch4 fa fb low) := fun _ => opField_iWord _ _ _ _
theorem branch5 (fa fb : RegIdx) (low : BitVec 16) : Statement (.branch5 fa fb low) := fun _ => opField_iWord _ _ _ _
theorem branch6 (fa fb : RegIdx) (low : BitVec 16) : Statement (.branch6 fa fb low) := fun _ => opField_iWord _ _ _ _
theorem branch7 (fa fb : RegIdx) (low : BitVec 16) : Statement (.branch7 fa fb low) := fun _ => opField_iWord _ _ _ _
theorem imm8 (fa fb : RegIdx) (low : BitVec 16) : Statement (.imm8 fa fb low) := fun _ => opField_iWord _ _ _ _
theorem imm9 (fa fb : RegIdx) (low : BitVec 16) : Statement (.imm9 fa fb low) := fun _ => opField_iWord _ _ _ _
theorem imm10 (fa fb : RegIdx) (low : BitVec 16) : Statement (.imm10 fa fb low) := fun _ => opField_iWord _ _ _ _
theorem imm11 (fa fb : RegIdx) (low : BitVec 16) : Statement (.imm11 fa fb low) := fun _ => opField_iWord _ _ _ _
theorem imm12 (fa fb : RegIdx) (low : BitVec 16) : Statement (.imm12 fa fb low) := fun _ => opField_iWord _ _ _ _
theorem imm13 (fa fb : RegIdx) (low : BitVec 16) : Statement (.imm13 fa fb low) := fun _ => opField_iWord _ _ _ _
theorem imm14 (fa fb : RegIdx) (low : BitVec 16) : Statement (.imm14 fa fb low) := fun _ => opField_iWord _ _ _ _
theorem imm15 (fa fb : RegIdx) (low : BitVec 16) : Statement (.imm15 fa fb low) := fun _ => opField_iWord _ _ _ _
theorem imm16 (fa fb : RegIdx) (low : BitVec 16) : Statement (.imm16 fa fb low) := fun _ => opField_iWord _ _ _ _
theorem imm17 (fa fb : RegIdx) (low : BitVec 16) : Statement (.imm17 fa fb low) := fun _ => opField_iWord _ _ _ _
theorem imm18 (fa fb : RegIdx) (low : BitVec 16) : Statement (.imm18 fa fb low) := fun _ => opField_iWord _ _ _ _
theorem imm19 (fa fb : RegIdx) (low : BitVec 16) : Statement (.imm19 fa fb low) := fun _ => opField_iWord _ _ _ _
theorem imm20 (fa fb : RegIdx) (low : BitVec 16) : Statement (.imm20 fa fb low) := fun _ => opField_iWord _ _ _ _
theorem imm21 (fa fb : RegIdx) (low : BitVec 16) : Statement (.imm21 fa fb low) := fun _ => opField_iWord _ _ _ _
theorem imm22 (fa fb : RegIdx) (low : BitVec 16) : Statement (.imm22 fa fb low) := fun _ => opField_iWord _ _ _ _
theorem imm23 (fa fb : RegIdx) (low : BitVec 16) : Statement (.imm23 fa fb low) := fun _ => opField_iWord _ _ _ _
theorem imm24 (fa fb : RegIdx) (low : BitVec 16) : Statement (.imm24 fa fb low) := fun _ => opField_iWord _ _ _ _
theorem imm25 (fa fb : RegIdx) (low : BitVec 16) : Statement (.imm25 fa fb low) := fun _ => opField_iWord _ _ _ _
theorem imm26 (fa fb : RegIdx) (low : BitVec 16) : Statement (.imm26 fa fb low) := fun _ => opField_iWord _ _ _ _
theorem imm27 (fa fb : RegIdx) (low : BitVec 16) : Statement (.imm27 fa fb low) := fun _ => opField_iWord _ _ _ _
theorem imm28 (fa fb : RegIdx) (low : BitVec 16) : Statement (.imm28 fa fb low) := fun _ => opField_iWord _ _ _ _
theorem imm29 (fa fb : RegIdx) (low : BitVec 16) : Statement (.imm29 fa fb low) := fun _ => opField_iWord _ _ _ _
theorem imm30 (fa fb : RegIdx) (low : BitVec 16) : Statement (.imm30 fa fb low) := fun _ => opField_iWord _ _ _ _
theorem imm31 (fa fb : RegIdx) (low : BitVec 16) : Statement (.imm31 fa fb low) := fun _ => opField_iWord _ _ _ _
theorem load32 (fa fb : RegIdx) (low : BitVec 16) : Statement (.load32 fa fb low) := fun _ => opField_iWord _ _ _ _
theorem load33 (fa fb : RegIdx) (low : BitVec 16) : Statement (.load33 fa fb low) := fun _ => opField_iWord _ _ _ _
theorem load34 (fa fb : RegIdx) (low : BitVec 16) : Statement (.load34 fa fb low) := fun _ => opField_iWord _ _ _ _
theorem load35 (fa fb : RegIdx) (low : BitVec 16) : Statement (.load35 fa fb low) := fun _ => opField_iWord _ _ _ _
theorem load36 (fa fb : RegIdx) (low : BitVec 16) : Statement (.load36 fa fb low) := fun _ => opField_iWord _ _ _ _
theorem load37 (fa fb : RegIdx) (low : BitVec 16) : Statement (.load37 fa fb low) := fun _ => opField_iWord _ _ _ _
theorem imm38 (fa fb : RegIdx) (low : BitVec 16) : Statement (.imm38 fa fb low) := fun _ => opField_iWord _ _ _ _
theorem imm39 (fa fb : RegIdx) (low : BitVec 16) : Statement (.imm39 fa fb low) := fun _ => opField_iWord _ _ _ _
theorem store40 (fa fb : RegIdx) (low : BitVec 16) : Statement (.store40 fa fb low) := fun _ => opField_iWord _ _ _ _
theorem store41 (fa fb : RegIdx) (low : BitVec 16) : Statement (.store41 fa fb low) := fun _ => opField_iWord _ _ _ _
theorem store42 (fa fb : RegIdx) (low : BitVec 16) : Statement (.store42 fa fb low) := fun _ => opField_iWord _ _ _ _
theorem store43 (fa fb : RegIdx) (low : BitVec 16) : Statement (.store43 fa fb low) := fun _ => opField_iWord _ _ _ _
theorem imm44 (fa fb : RegIdx) (low : BitVec 16) : Statement (.imm44 fa fb low) := fun _ => opField_iWord _ _ _ _
theorem imm45 (fa fb : RegIdx) (low : BitVec 16) : Statement (.imm45 fa fb low) := fun _ => opField_iWord _ _ _ _
theorem imm46 (fa fb : RegIdx) (low : BitVec 16) : Statement (.imm46 fa fb low) := fun _ => opField_iWord _ _ _ _
theorem imm47 (fa fb : RegIdx) (low : BitVec 16) : Statement (.imm47 fa fb low) := fun _ => opField_iWord _ _ _ _
theorem imm48 (fa fb : RegIdx) (low : BitVec 16) : Statement (.imm48 fa fb low) := fun _ => opField_iWord _ _ _ _
theorem imm49 (fa fb : RegIdx) (low : BitVec 16) : Statement (.imm49 fa fb low) := fun _ => opField_iWord _ _ _ _
theorem imm50 (fa fb : RegIdx) (low : BitVec 16) : Statement (.imm50 fa fb low) := fun _ => opField_iWord _ _ _ _
theorem imm51 (fa fb : RegIdx) (low : BitVec 16) : Statement (.imm51 fa fb low) := fun _ => opField_iWord _ _ _ _
theorem imm52 (fa fb : RegIdx) (low : BitVec 16) : Statement (.imm52 fa fb low) := fun _ => opField_iWord _ _ _ _
theorem imm53 (fa fb : RegIdx) (low : BitVec 16) : Statement (.imm53 fa fb low) := fun _ => opField_iWord _ _ _ _
theorem imm54 (fa fb : RegIdx) (low : BitVec 16) : Statement (.imm54 fa fb low) := fun _ => opField_iWord _ _ _ _
theorem imm55 (fa fb : RegIdx) (low : BitVec 16) : Statement (.imm55 fa fb low) := fun _ => opField_iWord _ _ _ _
theorem imm56 (fa fb : RegIdx) (low : BitVec 16) : Statement (.imm56 fa fb low) := fun _ => opField_iWord _ _ _ _
theorem imm57 (fa fb : RegIdx) (low : BitVec 16) : Statement (.imm57 fa fb low) := fun _ => opField_iWord _ _ _ _
theorem imm58 (fa fb : RegIdx) (low : BitVec 16) : Statement (.imm58 fa fb low) := fun _ => opField_iWord _ _ _ _
theorem imm59 (fa fb : RegIdx) (low : BitVec 16) : Statement (.imm59 fa fb low) := fun _ => opField_iWord _ _ _ _
theorem imm60 (fa fb : RegIdx) (low : BitVec 16) : Statement (.imm60 fa fb low) := fun _ => opField_iWord _ _ _ _
theorem imm61 (fa fb : RegIdx) (low : BitVec 16) : Statement (.imm61 fa fb low) := fun _ => opField_iWord _ _ _ _
theorem imm62 (fa fb : RegIdx) (low : BitVec 16) : Statement (.imm62 fa fb low) := fun _ => opField_iWord _ _ _ _
theorem imm63 (fa fb : RegIdx) (low : BitVec 16) : Statement (.imm63 fa fb low) := fun _ => opField_iWord _ _ _ _

end Sys2Proof.Laws.OpcodeField
end

