-- ==== Sys2Proof/Tests/Slice0.lean ====
section
/-! SUPPORT. The model's own tests, each about at most one cycle, and a witness for the hypotheses of every statement of
Sys2Proof/Certificates/Slice0/Obligations.lean. Expected values come from the spec: the vectors of 95_test_vectors.md
(named in the docstrings), or a word written bit by bit from the fields of R55 and the opcode map of R59. -/

namespace Sys2Proof.Tests

open Sys2Proof Sys2Proof.Machine

/-! ## WellFormed: each check refuses an ill-formed term -/

/-- The all-zero word is ZERO before it is JR (R57 line 1). -/
theorem smoke_jr_all_zero :
    Instr.wf { Params.default with functJr := 0#6 } (.jr 0 0 0 0#5) = false := by decide
/-- The all-zero word is ZERO before it is JALR. -/
theorem smoke_jalr_all_zero :
    Instr.wf { Params.default with functJalr := 0#6 } (.jalr 0 0 0 0#5) = false := by decide
/-- With both funct numbers equal every such word is JR before it is JALR (R57 lines 2 and 3). -/
theorem smoke_jalr_shadowed :
    Instr.wf { Params.default with functJalr := 8#6 } (.jalr 25 0 31 0#5) = false := by decide
/-- The all-zero word is not REG. -/
theorem smoke_reg_all_zero : Instr.wf Params.default (.reg 0 0 0 0#5 0#6) = false := by decide
/-- FN = FUNCT_JR is not REG. -/
theorem smoke_reg_functJr : Instr.wf Params.default (.reg 31 0 0 0#5 8#6) = false := by decide
/-- FN = FUNCT_JALR is not REG. -/
theorem smoke_reg_functJalr : Instr.wf Params.default (.reg 25 0 31 0#5 9#6) = false := by decide

/-! ## Decoding, one word per constructor -/

/-- V1. -/
theorem test_decode_zero : decodeInstr Params.default 0b00000000000000000000000000000000#32 = .zero := by decide
/-- V11: FB and FC are not zero. -/
theorem test_decode_jr : decodeInstr Params.default 0b00000001000010011111100000001000#32 = .jr 8 9 31 0#5 := by decide
/-- V12, with bits in `w[10:6]`. -/
theorem test_decode_jalr : decodeInstr Params.default
    0b00000011001000001111101010001001#32 = .jalr 25 0 31 10#5 := by
  decide
/-- V4. -/
theorem test_decode_reg : decodeInstr Params.default
    0b00000000000010010100000010000000#32 = .reg 0 9 8 2#5 0#6 := by
  decide
theorem test_decode_imm1 : decodeInstr Params.default
    0b00000101010001111000000000000001#32 = .imm1 10 7 32769#16 := by
  decide
/-- V18. -/
theorem test_decode_jump : decodeInstr Params.default
    0b00001011111111111111111111111111#32 = .jump 67108863#26 := by
  decide
/-- V19. -/
theorem test_decode_jumplink : decodeInstr Params.default
    0b00001100000000000000000000010000#32 = .jumplink 16#26 := by
  decide
theorem test_decode_branch4 : decodeInstr Params.default
    0b00010001010001111000000000000100#32 = .branch4 10 7 32772#16 := by
  decide
theorem test_decode_branch5 : decodeInstr Params.default
    0b00010101010001111000000000000101#32 = .branch5 10 7 32773#16 := by
  decide
theorem test_decode_branch6 : decodeInstr Params.default
    0b00011001010001111000000000000110#32 = .branch6 10 7 32774#16 := by
  decide
theorem test_decode_branch7 : decodeInstr Params.default
    0b00011101010001111000000000000111#32 = .branch7 10 7 32775#16 := by
  decide
theorem test_decode_imm8 : decodeInstr Params.default
    0b00100001010001111000000000001000#32 = .imm8 10 7 32776#16 := by
  decide
theorem test_decode_imm9 : decodeInstr Params.default
    0b00100101010001111000000000001001#32 = .imm9 10 7 32777#16 := by
  decide
theorem test_decode_imm10 : decodeInstr Params.default
    0b00101001010001111000000000001010#32 = .imm10 10 7 32778#16 := by
  decide
theorem test_decode_imm11 : decodeInstr Params.default
    0b00101101010001111000000000001011#32 = .imm11 10 7 32779#16 := by
  decide
theorem test_decode_imm12 : decodeInstr Params.default
    0b00110001010001111000000000001100#32 = .imm12 10 7 32780#16 := by
  decide
theorem test_decode_imm13 : decodeInstr Params.default
    0b00110101010001111000000000001101#32 = .imm13 10 7 32781#16 := by
  decide
theorem test_decode_imm14 : decodeInstr Params.default
    0b00111001010001111000000000001110#32 = .imm14 10 7 32782#16 := by
  decide
theorem test_decode_imm15 : decodeInstr Params.default
    0b00111101010001111000000000001111#32 = .imm15 10 7 32783#16 := by
  decide
theorem test_decode_imm16 : decodeInstr Params.default
    0b01000001010001111000000000010000#32 = .imm16 10 7 32784#16 := by
  decide
theorem test_decode_imm17 : decodeInstr Params.default
    0b01000101010001111000000000010001#32 = .imm17 10 7 32785#16 := by
  decide
theorem test_decode_imm18 : decodeInstr Params.default
    0b01001001010001111000000000010010#32 = .imm18 10 7 32786#16 := by
  decide
theorem test_decode_imm19 : decodeInstr Params.default
    0b01001101010001111000000000010011#32 = .imm19 10 7 32787#16 := by
  decide
theorem test_decode_imm20 : decodeInstr Params.default
    0b01010001010001111000000000010100#32 = .imm20 10 7 32788#16 := by
  decide
theorem test_decode_imm21 : decodeInstr Params.default
    0b01010101010001111000000000010101#32 = .imm21 10 7 32789#16 := by
  decide
theorem test_decode_imm22 : decodeInstr Params.default
    0b01011001010001111000000000010110#32 = .imm22 10 7 32790#16 := by
  decide
theorem test_decode_imm23 : decodeInstr Params.default
    0b01011101010001111000000000010111#32 = .imm23 10 7 32791#16 := by
  decide
theorem test_decode_imm24 : decodeInstr Params.default
    0b01100001010001111000000000011000#32 = .imm24 10 7 32792#16 := by
  decide
theorem test_decode_imm25 : decodeInstr Params.default
    0b01100101010001111000000000011001#32 = .imm25 10 7 32793#16 := by
  decide
theorem test_decode_imm26 : decodeInstr Params.default
    0b01101001010001111000000000011010#32 = .imm26 10 7 32794#16 := by
  decide
theorem test_decode_imm27 : decodeInstr Params.default
    0b01101101010001111000000000011011#32 = .imm27 10 7 32795#16 := by
  decide
theorem test_decode_imm28 : decodeInstr Params.default
    0b01110001010001111000000000011100#32 = .imm28 10 7 32796#16 := by
  decide
theorem test_decode_imm29 : decodeInstr Params.default
    0b01110101010001111000000000011101#32 = .imm29 10 7 32797#16 := by
  decide
theorem test_decode_imm30 : decodeInstr Params.default
    0b01111001010001111000000000011110#32 = .imm30 10 7 32798#16 := by
  decide
theorem test_decode_imm31 : decodeInstr Params.default
    0b01111101010001111000000000011111#32 = .imm31 10 7 32799#16 := by
  decide
theorem test_decode_load32 : decodeInstr Params.default
    0b10000001010001111000000000100000#32 = .load32 10 7 32800#16 := by
  decide
theorem test_decode_load33 : decodeInstr Params.default
    0b10000101010001111000000000100001#32 = .load33 10 7 32801#16 := by
  decide
theorem test_decode_load34 : decodeInstr Params.default
    0b10001001010001111000000000100010#32 = .load34 10 7 32802#16 := by
  decide
theorem test_decode_load35 : decodeInstr Params.default
    0b10001101010001111000000000100011#32 = .load35 10 7 32803#16 := by
  decide
theorem test_decode_load36 : decodeInstr Params.default
    0b10010001010001111000000000100100#32 = .load36 10 7 32804#16 := by
  decide
theorem test_decode_load37 : decodeInstr Params.default
    0b10010101010001111000000000100101#32 = .load37 10 7 32805#16 := by
  decide
theorem test_decode_imm38 : decodeInstr Params.default
    0b10011001010001111000000000100110#32 = .imm38 10 7 32806#16 := by
  decide
theorem test_decode_imm39 : decodeInstr Params.default
    0b10011101010001111000000000100111#32 = .imm39 10 7 32807#16 := by
  decide
theorem test_decode_store40 : decodeInstr Params.default
    0b10100001010001111000000000101000#32 = .store40 10 7 32808#16 := by
  decide
theorem test_decode_store41 : decodeInstr Params.default
    0b10100101010001111000000000101001#32 = .store41 10 7 32809#16 := by
  decide
theorem test_decode_store42 : decodeInstr Params.default
    0b10101001010001111000000000101010#32 = .store42 10 7 32810#16 := by
  decide
theorem test_decode_store43 : decodeInstr Params.default
    0b10101101010001111000000000101011#32 = .store43 10 7 32811#16 := by
  decide
theorem test_decode_imm44 : decodeInstr Params.default
    0b10110001010001111000000000101100#32 = .imm44 10 7 32812#16 := by
  decide
theorem test_decode_imm45 : decodeInstr Params.default
    0b10110101010001111000000000101101#32 = .imm45 10 7 32813#16 := by
  decide
theorem test_decode_imm46 : decodeInstr Params.default
    0b10111001010001111000000000101110#32 = .imm46 10 7 32814#16 := by
  decide
theorem test_decode_imm47 : decodeInstr Params.default
    0b10111101010001111000000000101111#32 = .imm47 10 7 32815#16 := by
  decide
theorem test_decode_imm48 : decodeInstr Params.default
    0b11000001010001111000000000110000#32 = .imm48 10 7 32816#16 := by
  decide
theorem test_decode_imm49 : decodeInstr Params.default
    0b11000101010001111000000000110001#32 = .imm49 10 7 32817#16 := by
  decide
theorem test_decode_imm50 : decodeInstr Params.default
    0b11001001010001111000000000110010#32 = .imm50 10 7 32818#16 := by
  decide
theorem test_decode_imm51 : decodeInstr Params.default
    0b11001101010001111000000000110011#32 = .imm51 10 7 32819#16 := by
  decide
theorem test_decode_imm52 : decodeInstr Params.default
    0b11010001010001111000000000110100#32 = .imm52 10 7 32820#16 := by
  decide
theorem test_decode_imm53 : decodeInstr Params.default
    0b11010101010001111000000000110101#32 = .imm53 10 7 32821#16 := by
  decide
theorem test_decode_imm54 : decodeInstr Params.default
    0b11011001010001111000000000110110#32 = .imm54 10 7 32822#16 := by
  decide
theorem test_decode_imm55 : decodeInstr Params.default
    0b11011101010001111000000000110111#32 = .imm55 10 7 32823#16 := by
  decide
theorem test_decode_imm56 : decodeInstr Params.default
    0b11100001010001111000000000111000#32 = .imm56 10 7 32824#16 := by
  decide
theorem test_decode_imm57 : decodeInstr Params.default
    0b11100101010001111000000000111001#32 = .imm57 10 7 32825#16 := by
  decide
theorem test_decode_imm58 : decodeInstr Params.default
    0b11101001010001111000000000111010#32 = .imm58 10 7 32826#16 := by
  decide
theorem test_decode_imm59 : decodeInstr Params.default
    0b11101101010001111000000000111011#32 = .imm59 10 7 32827#16 := by
  decide
theorem test_decode_imm60 : decodeInstr Params.default
    0b11110001010001111000000000111100#32 = .imm60 10 7 32828#16 := by
  decide
theorem test_decode_imm61 : decodeInstr Params.default
    0b11110101010001111000000000111101#32 = .imm61 10 7 32829#16 := by
  decide
theorem test_decode_imm62 : decodeInstr Params.default
    0b11111001010001111000000000111110#32 = .imm62 10 7 32830#16 := by
  decide
theorem test_decode_imm63 : decodeInstr Params.default
    0b11111101010001111000000000111111#32 = .imm63 10 7 32831#16 := by
  decide

/-! ## One check or one cycle, against the vectors -/

/-- A slot in EX or below, or in ID: its word with the decode of R70. -/
def slotOf (w : Word) : Slot := (Slot.fetched w 0#32).decoded Params.default

/-- A state in the form of section 2.2 of 95_test_vectors.md: the words in ID and EX, the busy entries, the two
configuration bits. -/
def hz (idWord exWord : Word) (busy : List (RegIdx × Stage)) (fwd bp : Bool) : State :=
  { State.reset with
    sID := slotOf idWord, sEX := slotOf exWord, fwd := fwd, bp := bp,
    sb := busy.foldl (fun sb x => sb.write x.1 (some x.2)) State.reset.sb }

/-- What a step reports: the report, and what it adds to the raw, load-use, forward and branch counters. -/
def reported (s : State) : Option (HazardReport × List Nat) :=
  match step s with
  | .next t => some (t.report, [t.metrics.rawHazardCount - s.metrics.rawHazardCount,
      t.metrics.loadUseStalls - s.metrics.loadUseStalls, t.metrics.forwardCount - s.metrics.forwardCount,
      t.metrics.branchStalls - s.metrics.branchStalls])
  | .fault _ => none
  | .refused _ => none

/-- H21. -/
theorem test_zero_H21 : reported (hz 0x00000000#32 0x8FA80000#32 [(8, .execute), (9, .execute)] true false)
    = some (⟨false, .none, false, none⟩, [0, 0, 0, 0]) := by decide
/-- H2. -/
theorem test_load_H2 : reported (hz 0x8D4B0000#32 0x01095020#32 [(10, .execute)] true false)
    = some (⟨true, .raw, false, some ⟨.execute, .decode, 10⟩⟩, [1, 0, 1, 0]) := by decide
/-- H3. -/
theorem test_load_H3 : reported (hz 0x8D4B0000#32 0x01095020#32 [(10, .execute)] false false)
    = some (⟨true, .raw, true, none⟩, [1, 0, 0, 0]) := by decide
/-- H7: both operands meet the load-use condition. -/
theorem test_reg_H7 : reported (hz 0x016A6020#32 0x8D4B0000#32 [(11, .execute), (10, .execute)] true false)
    = some (⟨true, .loadUse, true, none⟩, [1, 2, 0, 0]) := by decide
/-- H27: `src1` forwards, `src2` is load-use. -/
theorem test_reg_H27 : reported (hz 0x01095020#32 0x8FA80000#32 [(8, .writeback), (9, .execute)] true true)
    = some (⟨true, .loadUse, true, some ⟨.writeback, .decode, 8⟩⟩, [1, 1, 1, 0]) := by decide
/-- H14: a control hazard over a forwarded operand. -/
theorem test_branch_H14 : reported (hz 0x11090003#32 0x20080001#32 [(8, .execute)] true true)
    = some (⟨true, .control, false, some ⟨.execute, .decode, 8⟩⟩, [1, 0, 1, 1]) := by decide
/-- H16: a control hazard over a load-use operand stalls with prediction on. -/
theorem test_branch_H16 : reported (hz 0x11090003#32 0x8FA80000#32 [(8, .execute)] true true)
    = some (⟨true, .control, true, none⟩, [1, 1, 0, 1]) := by decide
/-- H17. -/
theorem test_jump_H17 : reported (hz 0x08000010#32 0x00000000#32 [] false false)
    = some (⟨true, .control, true, none⟩, [0, 0, 0, 1]) := by decide
/-- H18: `jal` reads nothing, so the busy entry 31 does not matter. -/
theorem test_jumplink_H18 : reported (hz 0x0C000010#32 0x00000000#32 [(31, .execute)] true false)
    = some (⟨true, .control, true, none⟩, [0, 0, 0, 1]) := by decide
/-- H19. -/
theorem test_jr_H19 : reported (hz 0x03E00008#32 0x0C000010#32 [(31, .execute)] true true)
    = some (⟨true, .control, false, some ⟨.execute, .decode, 31⟩⟩, [1, 0, 1, 1]) := by decide
/-- The note on H19 and H20: with CONTROL_INCLUDES_JR = false H20 is a plain RAW stall. -/
theorem test_jr_H20_not_control :
    reported { hz 0x03E00008#32 0x0C000010#32 [(31, .execute)] false false with
      params := { Params.default with controlIncludesJr := false } }
    = some (⟨true, .raw, true, none⟩, [1, 0, 0, 0]) := by decide
/-- H24. -/
theorem test_store_H24 : reported (hz 0xAFAA0008#32 0x01095020#32 [(10, .execute)] true true)
    = some (⟨true, .raw, false, some ⟨.execute, .decode, 10⟩⟩, [1, 0, 1, 0]) := by decide
/-- H23: register 0 as a source is skipped. -/
theorem test_imm8_H23 : reported (hz 0x20080001#32 0x8FA80000#32 [(8, .execute)] false false)
    = some (⟨false, .none, false, none⟩, [0, 0, 0, 0]) := by decide

/-! ### Program P1 of 95_test_vectors.md sections 2.3 and 3, forwarding on, prediction off: the states after cycles 3, 4,
5, 6 and 7, written out from the tables there -/

def p1Words : List Word := [0x01095020#32, 0x8D4B0000#32, 0x016A6020#32]
def p1A (valid : Bool) : Slot := ⟨0x01095020#32, 0#32, valid, some 8, some 9, some 10⟩
def p1L : Slot := ⟨0x8D4B0000#32, 4#32, true, some 10, none, some 11⟩
def p1B : Slot := ⟨0x016A6020#32, 8#32, true, some 11, some 10, some 12⟩
def p1E1 : HistoryEntry := ⟨1, ⟨0x01095020#32, 0, 0, 0, 0⟩, .none, false, false⟩
def p1E2 : HistoryEntry := ⟨2, ⟨0x8D4B0000#32, 0x01095020#32, 0, 0, 0⟩, .none, false, false⟩
def p1E3 : HistoryEntry := ⟨3, ⟨0x016A6020#32, 0x8D4B0000#32, 0x01095020#32, 0, 0⟩, .none, false, false⟩
def p1E4 : HistoryEntry := ⟨4, ⟨0, 0x016A6020#32, 0x8D4B0000#32, 0x01095020#32, 0⟩, .raw, false, true⟩
def p1E5 : HistoryEntry := ⟨5, ⟨0, 0, 0, 0x8D4B0000#32, 0x01095020#32⟩, .loadUse, true, false⟩
def p1E6 : HistoryEntry := ⟨6, ⟨0, 0, 0, 0, 0x8D4B0000#32⟩, .none, false, false⟩
def p1E7 : HistoryEntry := ⟨7, ⟨0, 0, 0, 0, 0⟩, .none, false, false⟩
def busyRegs (rs : List RegIdx) : Scoreboard := rs.foldl (fun sb r => sb.write r (some .execute)) State.reset.sb

def p1Base : State := State.resetWith Params.default p1Words true false
def p1After3 : State :=
  { p1Base with
    sIF := ⟨0x016A6020#32, 8#32, true, none, none, none⟩, sID := p1L, sEX := p1A true, sb := busyRegs [10], fi := 3,
    metrics := ⟨3, 0, 0, 0, 0, 0, 0⟩, history := [p1E1, p1E2, p1E3] }
def p1After4 : State :=
  { p1Base with
    sID := p1B, sEX := p1L, sMEM := p1A true, sb := busyRegs [10, 11], fi := 3,
    report := ⟨true, .raw, false, some ⟨.execute, .decode, 10⟩⟩, metrics := ⟨4, 0, 0, 1, 0, 0, 1⟩,
    history := [p1E1, p1E2, p1E3, p1E4] }
def p1After5 : State :=
  { p1Base with
    sMEM := p1L, sWB := p1A true, sb := busyRegs [10, 11], fi := 3, report := ⟨true, .loadUse, true, none⟩,
    metrics := ⟨5, 0, 1, 1, 0, 2, 2⟩, history := [p1E1, p1E2, p1E3, p1E4, p1E5] }
def p1After6 : State :=
  { p1Base with
    sWB := p1L, sb := busyRegs [11], fi := 3, metrics := ⟨6, 1, 1, 1, 0, 2, 2⟩,
    history := [p1E1, p1E2, p1E3, p1E4, p1E5, p1E6] }
def p1After7 : State :=
  { p1Base with
    fi := 3, metrics := ⟨7, 2, 1, 1, 0, 2, 2⟩, history := [p1E1, p1E2, p1E3, p1E4, p1E5, p1E6, p1E7], done := true }

/-- Cycle 4 of P1: the load is forwarded `{3,2,10}`, and fetch is exhausted (Y4). -/
theorem test_p1_cycle4 : step p1After3 = .next p1After4 := rfl
/-- Cycle 5 of P1: load-use twice, the second `add` is discarded (Y5). -/
theorem test_p1_cycle5 : step p1After4 = .next p1After5 := rfl
/-- Cycle 6 of P1: completion and clear (Y6). -/
theorem test_p1_cycle6 : step p1After5 = .next p1After6 := rfl
/-- Cycle 7 of P1: the pipeline has drained (Y7). -/
theorem test_p1_cycle7 : step p1After6 = .next p1After7 := rfl
/-- The result of P1 (R155, R160): `cpi = 7/2`. -/
theorem test_p1_cpi : (result p1After7).map SimulationResult.cpi = some ⟨7, 2⟩ := by decide
/-- No result during the run (R162). -/
theorem test_p1_no_result_before_the_end : result p1After6 = none := by decide
/-- Y5 under the policy HOLD: `S[ID]` is kept. -/
theorem test_p1_cycle5_hold :
    step { p1After4 with params := { Params.default with stallIdPolicy := .hold } }
      = .next { p1After5 with params := { Params.default with stallIdPolicy := .hold }, sID := p1B,
                              history := [p1E1, p1E2, p1E3, p1E4,
                                ⟨5, ⟨0, 0x016A6020#32, 0, 0x8D4B0000#32, 0x01095020#32⟩, .loadUse, true, false⟩] } := rfl
/-- A table word placed by `withFetchWord` after reset enters EX in the next step and marks its destination (Y3). -/
theorem test_placed_word :
    ((match step (State.reset.withFetchWord 32 0x01095020) with
      | .next t => some (t.sEX.word, t.sb.read 10, t.sb.read 9)
      | .fault _ => none
      | .refused _ => none) = some (0x01095020#32, some .execute, none)) := by decide

/-! ## Witnesses: for every statement with hypotheses, a state and operands that meet them together -/

/-- A word in ID behind a producer of register 8 that is no load: register 8 forwards, register 9 is available. -/
def wFwd (idWord : Word) : State := hz idWord 0x20080001#32 [(8, .execute)] true true

theorem witness_DecodeOfEncodeGivesTheInstruction_jr : Instr.wf Params.default (.jr 31 0 0 0#5) = true := by decide
theorem witness_DecodeOfEncodeGivesTheInstruction_jalr : Instr.wf Params.default (.jalr 25 0 31 0#5) = true := by decide
theorem witness_DecodeOfEncodeGivesTheInstruction_reg :
    Instr.wf Params.default (.reg 0 0 0 0#5 10#6) = true := by decide
theorem witness_RegIssuesWhenBothSourcesPass :
    Passes (wFwd 0x01095020#32) (some 8) ∧ Passes (wFwd 0x01095020#32) (some 9) := ⟨.inr ⟨.execute, 8, rfl⟩, .inl rfl⟩
theorem witness_ImmFormsIssueWhenTheSourcePasses :
    Instr.imm63 ∈ immForms ∧ Passes (wFwd 0xFD0A0000#32) (some 8) :=
  ⟨by simp [immForms], .inr ⟨.execute, 8, rfl⟩⟩
theorem witness_LoadFormsIssueWhenTheBasePasses :
    Instr.load37 ∈ loadForms ∧ Passes (wFwd 0x950A0000#32) (some 8) :=
  ⟨by simp [loadForms], .inr ⟨.execute, 8, rfl⟩⟩
theorem witness_StoreFormsIssueWhenBothSourcesPass :
    Instr.store43 ∈ storeForms ∧ Passes (wFwd 0xAD090000#32) (some 8) ∧ Passes (wFwd 0xAD090000#32) (some 9) :=
  ⟨by simp [storeForms], .inr ⟨.execute, 8, rfl⟩, .inl rfl⟩
theorem witness_BranchFormsIssueWithPrediction :
    Instr.branch7 ∈ branchForms ∧ (wFwd 0x1D090003#32).bp = true ∧ Passes (wFwd 0x1D090003#32) (some 8) ∧
      Passes (wFwd 0x1D090003#32) (some 9) :=
  ⟨by simp [branchForms], rfl, .inr ⟨.execute, 8, rfl⟩, .inl rfl⟩
theorem witness_JumpIssuesWithPrediction : (wFwd 0x08000010#32).bp = true := rfl
theorem witness_JumplinkIssuesWithPrediction : (wFwd 0x0C000010#32).bp = true := rfl
theorem witness_JrIssuesWhenItsSourcePasses :
    ((wFwd 0x01000008#32).bp = true ∨ (wFwd 0x01000008#32).params.controlIncludesJr = false) ∧
      Passes (wFwd 0x01000008#32) (some 8) := ⟨.inl rfl, .inr ⟨.execute, 8, rfl⟩⟩
/-- The second disjunct: no prediction, and CONTROL_INCLUDES_JR not set. -/
def wNoControl (w : Word) : State :=
  { hz w 0x20080001#32 [(8, .execute)] true false with params := { Params.default with controlIncludesJr := false } }
theorem witness_JrIssuesWhenItsSourcePasses_not_control :
    ((wNoControl 0x01000008#32).bp = true ∨ (wNoControl 0x01000008#32).params.controlIncludesJr = false) ∧
      Passes (wNoControl 0x01000008#32) (some 8) := ⟨.inr rfl, .inr ⟨.execute, 8, rfl⟩⟩
theorem witness_JalrIssuesWhenItsSourcePasses :
    ((wFwd 0x0100F809#32).bp = true ∨ (wFwd 0x0100F809#32).params.controlIncludesJr = false) ∧
      Passes (wFwd 0x0100F809#32) (some 8) := ⟨.inl rfl, .inr ⟨.execute, 8, rfl⟩⟩
theorem witness_JalrIssuesWhenItsSourcePasses_not_control :
    ((wNoControl 0x0100F809#32).bp = true ∨ (wNoControl 0x0100F809#32).params.controlIncludesJr = false) ∧
      Passes (wNoControl 0x0100F809#32) (some 8) := ⟨.inr rfl, .inr ⟨.execute, 8, rfl⟩⟩

/-- H27 as a state. -/
def wH27 : State := hz 0x01095020#32 0x8FA80000#32 [(8, .writeback), (9, .execute)] true true
/-- Codes 1 and 2, of which R128 says that they have no meaning with forwarding enabled. -/
def wCode1 : State := hz 0x01095020#32 0x00000000#32 [(8, .fetch)] true true
def wCode2 : State := hz 0x01095020#32 0x00000000#32 [(9, .decode)] true true
theorem witness_CheckReportsAndCountsWhatItFinds : CodesMeaningful (.reg 8 9 10 0#5 32#6) wH27 := by
  constructor <;> decide
theorem witness_OnlyMeaninglessCodesAreRefused_src1 : ¬ CodesMeaningful (.reg 8 9 10 0#5 32#6) wCode1 :=
  fun h => h.1 rfl
theorem witness_OnlyMeaninglessCodesAreRefused_src2 : ¬ CodesMeaningful (.reg 8 9 10 0#5 32#6) wCode2 :=
  fun h => h.2 rfl
/-- With forwarding disabled codes 1 and 2 do have a meaning (R128): they stall. -/
theorem test_code1_without_forwarding :
    reported (hz 0x01095020#32 0x00000000#32 [(8, .fetch)] false true)
      = some (⟨true, .raw, true, none⟩, [1, 0, 0, 0]) := by decide
theorem witness_LoadInExStallsABusySource_src1 :
    (8 : RegIdx) ≠ 0 ∧ (operandsOf (.reg 8 9 10 0#5 32#6)).src1 = some 8 ∧
    entryAtCheck (hz 0x01095020#32 0x8FA80000#32 [(8, .execute), (9, .memory)] true true) 8 = some .execute ∧
    isLoad (hz 0x01095020#32 0x8FA80000#32 [(8, .execute), (9, .memory)] true true).sEX.word = true ∧
    CodesMeaningful (.reg 8 9 10 0#5 32#6)
      (hz 0x01095020#32 0x8FA80000#32 [(8, .execute), (9, .memory)] true true) :=
  ⟨by decide, rfl, by decide, by decide, by decide, by decide⟩
theorem witness_LoadInExStallsABusySource_src2 :
    (9 : RegIdx) ≠ 0 ∧ (operandsOf (.reg 8 9 10 0#5 32#6)).src2 = some 9 ∧
    entryAtCheck wH27 9 = some .execute ∧ isLoad wH27.sEX.word = true ∧
    CodesMeaningful (.reg 8 9 10 0#5 32#6) wH27 :=
  ⟨by decide, rfl, by decide, by decide, by decide, by decide⟩
theorem witness_BusySourceStallsWithoutForwarding :
    (8 : RegIdx) ≠ 0 ∧ (operandsOf (.reg 8 9 10 0#5 32#6)).src1 = some 8 ∧
    entryAtCheck (hz 0x01095020#32 0#32 [(8, .fetch)] false true) 8 ≠ none ∧
    (hz 0x01095020#32 0#32 [(8, .fetch)] false true).fwd = false :=
  ⟨by decide, rfl, by decide, rfl⟩
/-- H16 as a state with prediction on, and the same with it off. -/
theorem witness_ControlHazardIsReportedOverDataHazards :
    CodesMeaningful (.branch4 8 9 3#16) (hz 0x11090003#32 0x8FA80000#32 [(8, .execute)] true true) ∧
    controlOf (hz 0x11090003#32 0x8FA80000#32 [(8, .execute)] true true).params (.branch4 8 9 3#16) = true ∧
    (hz 0x11090003#32 0x8FA80000#32 [(8, .execute)] true true).bp = true :=
  ⟨⟨by decide, by decide⟩, rfl, rfl⟩
theorem witness_ControlHazardIsReportedOverDataHazards_no_prediction :
    CodesMeaningful (.branch4 8 9 3#16) (hz 0x11090003#32 0x8FA80000#32 [(8, .execute)] true false) ∧
    controlOf (hz 0x11090003#32 0x8FA80000#32 [(8, .execute)] true false).params (.branch4 8 9 3#16) = true ∧
    (hz 0x11090003#32 0x8FA80000#32 [(8, .execute)] true false).bp = false :=
  ⟨⟨by decide, by decide⟩, rfl, rfl⟩
/-- H14 as a state: the clause of a cycle that issues. -/
theorem witness_ControlHazardIsReportedOverDataHazards_issues :
    CodesMeaningful (.branch4 8 9 3#16) (wFwd 0x11090003#32) ∧
    controlOf (wFwd 0x11090003#32).params (.branch4 8 9 3#16) = true ∧
    ∃ t, exec (.branch4 8 9 3#16) (wFwd 0x11090003#32) = .next t ∧ t.report.stallRequired = false :=
  ⟨⟨by decide, by decide⟩, rfl, _, rfl, rfl⟩
theorem witness_OperandWithoutForwardingStalls :
    (10 : RegIdx) ≠ 0 ∧ (hz 0#32 0#32 [(10, .execute)] false true).sb.read 10 = some .execute ∧
      ¬ (Stage.execute = .execute ∧ false = true) := ⟨by decide, by decide, by decide⟩
theorem witness_OperandWithoutForwardingStalls_load_in_ex :
    (10 : RegIdx) ≠ 0 ∧ (hz 0#32 0#32 [(10, .memory)] false true).sb.read 10 = some .memory ∧
      ¬ (Stage.memory = .execute ∧ true = true) := ⟨by decide, by decide, by decide⟩
/-- Both sources register 0, while even `SB[0]` holds a code. -/
theorem witness_NothingInIdFindsNothing :
    (operandsOf (.reg 0 0 8 0#5 32#6)).src1 = some 0 ∧ (operandsOf (.reg 0 0 8 0#5 32#6)).src2 = some 0 ∧
    controlOf (hz 0x00004020#32 0x8FA80000#32 [(0, .fetch), (8, .execute)] true false).params
      (.reg 0 0 8 0#5 32#6) = false := ⟨rfl, rfl, rfl⟩
theorem witness_NothingInIdFindsNothing_none :
    (operandsOf .zero).src1 = none ∧ (operandsOf .zero).src2 = none ∧ controlOf Params.default .zero = false :=
  ⟨rfl, rfl, rfl⟩

/-- A cycle that issues and one that stalls, as `exec` (R90). -/
theorem witness_EveryCycleIssuesOrStalls_issues :
    exec (.load35 10 11 0#16) p1After3 = .next p1After4 ∧ p1After4.report.stallRequired = false := ⟨rfl, rfl⟩
theorem witness_EveryCycleIssuesOrStalls_stalls :
    exec (.reg 11 10 12 0#5 32#6) p1After4 = .next p1After5 ∧ p1After5.report.stallRequired = true := ⟨rfl, rfl⟩
/-- The clause on a done instance. -/
theorem witness_EveryCycleIssuesOrStalls_done : (∃ t, exec .zero p1After7 = .next t) ∧ p1After7.done = true :=
  ⟨⟨_, rfl⟩, rfl⟩
theorem witness_MemoryStepCopiesExInEveryCycle : exec (.reg 11 10 12 0#5 32#6) p1After4 = .next p1After5 := rfl
theorem witness_WritebackCountsClearsAndCopies : p1After5.sWB.valid = true ∧ p1After5.sWB.dest = some 10 := ⟨rfl, rfl⟩
theorem witness_WritebackCountsClearsAndCopies_bubble : p1After4.sWB.valid = false := rfl
theorem witness_WritebackClearsWhoeverMarked :
    exec .zero p1After5 = .next p1After6 ∧ p1After5.sWB.valid = true ∧ p1After5.sWB.dest = some 10 ∧
      (operandsOf .zero).dest ≠ some 10 := ⟨rfl, rfl, rfl, by decide⟩
/-- The other disjunct: the cycle stalls (`beq` with prediction off) while an `add` leaves WB. -/
def wStallWB : State :=
  { hz 0x11090003#32 0#32 [(10, .execute)] true false with sWB := slotOf 0x01095020#32 }
theorem witness_WritebackClearsWhoeverMarked_stall :
    ∃ t, exec (.branch4 8 9 3#16) wStallWB = .next t ∧ wStallWB.sWB.valid = true ∧ wStallWB.sWB.dest = some 10 ∧
      t.report.stallRequired = true := ⟨_, rfl, rfl, rfl, rfl⟩

/-- The history at its two sides of the cap, and the last cycle before the cycle cap. -/
def wHist (n total : Nat) : State :=
  { State.reset with
    imem := [0x20000001#32], history := List.replicate n p1E7,
    metrics := { Metrics.zero with totalCycles := total } }
/-- The list that a cycle leaves. -/
def afterCycle (s : State) : Option (Nat × Bool) :=
  match exec .zero s with
  | .next t => some (t.history.length, t.done)
  | .fault _ => none
  | .refused _ => none
theorem witness_HistoryIsAHardCeilingWithoutInfluence :
    (∃ t, exec .zero (wHist 49 49) = .next t) ∧ (wHist 49 49).history.length < 50 := ⟨⟨_, rfl⟩, by decide⟩
theorem witness_HistoryIsAHardCeilingWithoutInfluence_full :
    (∃ t, exec .zero (wHist 50 50) = .next t) ∧ 50 ≤ (wHist 50 50).history.length := ⟨⟨_, rfl⟩, by decide⟩
theorem witness_CycleRecordsItselfAndEndsTheRun : exec (.load35 10 11 0#16) p1After3 = .next p1After4 := rfl
/-- R158 at the cap: entry 50 is written, entry 51 is dropped. -/
theorem test_history_49 : afterCycle (wHist 49 49) = some (50, false) := rfl
theorem test_history_50 : afterCycle (wHist 50 50) = some (50, false) := rfl
/-- R102: cycle 499 does not end the run, cycle 500 does. -/
theorem test_cap_498 : afterCycle (wHist 50 498) = some (50, false) := rfl
theorem test_cap_499 : afterCycle (wHist 50 499) = some (50, true) := rfl

theorem witness_StepRunsTheStandingInstruction :
    p1After4.done = false ∧ p1After4.sID.operands = operandsOf (decodeInstr p1After4.params p1After4.sID.word) :=
  ⟨rfl, by decide⟩
theorem witness_StepOnADoneInstanceChangesNothing : p1After7.done = true := rfl
/-- Both grounds of a refused step. -/
theorem witness_StepIsRefusedOnlyOutsideTheSpec_codes : step wCode1 = .refused .noForwardingSource := rfl
theorem witness_StepIsRefusedOnlyOutsideTheSpec_operands :
    step { State.reset with sID := ⟨0x01095020#32, 0#32, true, some 1, none, none⟩ } = .refused .operandsNotDecoded :=
  rfl
theorem witness_ResetForgetsTheRun : p1After4.params = State.reset.params := rfl

/-! ### The invariants, on P1 after cycle 4 -/

theorem wInv_slots : SlotsInv p1After4 :=
  ⟨fun _ => ⟨rfl, rfl⟩, fun h => by simp [p1After4, p1B] at h, fun h => by simp [p1After4, p1L] at h,
   fun h => by simp [p1After4, p1A] at h, fun _ => ⟨rfl, rfl⟩⟩
theorem wInv_operands : OperandsInv p1After4 := ⟨rfl, rfl, rfl, rfl, rfl⟩
theorem wInv_scoreboard : ScoreboardInv p1After4 := ⟨by decide, by decide⟩
theorem wInv_producers : ProducerInv p1After4 := by unfold ProducerInv; decide
theorem wInv_fetch : FetchInv p1After4 := by unfold FetchInv; decide
theorem wInv_history : HistoryInv p1After4 := ⟨by decide, by decide⟩
theorem wInv_occupancy : OccupancyInv p1After4 := by constructor <;> decide
theorem wInv_counters : CountersInv p1After4 := by constructor <;> decide
theorem wInv_account : AccountInv p1After4 := by constructor <;> decide
theorem wInv_cap : CapInv p1After4 := by constructor <;> decide
theorem wInv_afterStall : AfterStallInv p1After4 := by unfold AfterStallInv; decide

theorem witness_StepKeepsTheSlotInvariant : SlotsInv p1After4 ∧ step p1After4 = .next p1After5 := ⟨wInv_slots, rfl⟩
theorem witness_StepKeepsTheOperandFields : OperandsInv p1After4 ∧ step p1After4 = .next p1After5 :=
  ⟨wInv_operands, rfl⟩
theorem witness_StepKeepsTheScoreboardInvariant : ScoreboardInv p1After4 ∧ step p1After4 = .next p1After5 :=
  ⟨wInv_scoreboard, rfl⟩
theorem witness_StepKeepsAProducerForEveryBusyRegister :
    SlotsInv p1After4 ∧ ProducerInv p1After4 ∧ step p1After4 = .next p1After5 := ⟨wInv_slots, wInv_producers, rfl⟩
theorem witness_DrainedScoreboardIsClear : SlotsInv p1After7 ∧ ProducerInv p1After7 ∧ drained p1After7 = true :=
  ⟨⟨fun _ => ⟨rfl, rfl⟩, fun _ => ⟨rfl, rfl⟩, fun _ => ⟨rfl, rfl⟩, fun _ => ⟨rfl, rfl⟩, fun _ => ⟨rfl, rfl⟩⟩,
   fun r h => absurd (read_replicate r) h, by decide⟩
theorem witness_StepKeepsTheFetchIndexInBounds : FetchInv p1After4 ∧ step p1After4 = .next p1After5 :=
  ⟨wInv_fetch, rfl⟩
theorem witness_StepKeepsTheInputs : step p1After4 = .next p1After5 := rfl
theorem witness_StepKeepsTheHistoryShape : HistoryInv p1After4 ∧ step p1After4 = .next p1After5 := ⟨wInv_history, rfl⟩
theorem witness_StepKeepsTheCounterRelations :
    OccupancyInv p1After4 ∧ CountersInv p1After4 ∧ step p1After4 = .next p1After5 :=
  ⟨wInv_occupancy, wInv_counters, rfl⟩
theorem witness_StepKeepsTheInstructionAccount :
    SlotsInv p1After4 ∧ AccountInv p1After4 ∧ step p1After4 = .next p1After5 := ⟨wInv_slots, wInv_account, rfl⟩
theorem witness_StepKeepsTheCycleCap : CapInv p1After4 ∧ step p1After4 = .next p1After5 := ⟨wInv_cap, rfl⟩
theorem witness_StalledCyclesAreNeverConsecutive :
    p1After4.params.stallIdPolicy = .bubble ∧ p1After4.done = false ∧ step p1After4 = .next p1After5 ∧
      p1After5.report.stallRequired = true ∧ p1After5.done = false ∧ step p1After5 = .next p1After6 :=
  ⟨rfl, rfl, rfl, rfl, rfl, rfl⟩
/-- A branch in ID under the policy HOLD, prediction off. -/
def wHeld : State :=
  { hz 0x11090003#32 0#32 [] true false with params := { Params.default with stallIdPolicy := .hold } }
theorem witness_HeldControlWordNeverLeavesId :
    wHeld.params.stallIdPolicy = .hold ∧ wHeld.bp = false ∧ wHeld.done = false ∧
      wHeld.sID.operands = decode wHeld.params wHeld.sID.word ∧ ScoreboardInv wHeld ∧
      isControl wHeld.params wHeld.sID.word = true :=
  ⟨rfl, rfl, rfl, by decide, ⟨by decide, by decide⟩, by decide⟩
/-- H28 with its producer in EX: register 10 is busy, and the `add` reads 8 and 9. -/
def wH28 : State := hz 0x01095020#32 0x01095020#32 [(10, .execute)] true true
theorem witness_NoReadOfTheTwoAheadIsNoDataHazard :
    SlotsInv wH28 ∧ ProducerInv wH28 ∧
      (∀ r, r ≠ 0 → wH28.sID.src1 = some r ∨ wH28.sID.src2 = some r →
        wH28.sEX.dest ≠ some r ∧ wH28.sMEM.dest ≠ some r) ∧
      wH28.sID.operands = decode wH28.params wH28.sID.word ∧ wH28.done = false ∧
      (isControl wH28.params wH28.sID.word = false ∨ wH28.bp = true) := by
  refine ⟨⟨fun _ => ⟨rfl, rfl⟩, fun h => ?_, fun h => ?_, fun _ => ⟨rfl, rfl⟩, fun _ => ⟨rfl, rfl⟩⟩,
    ?_, by decide, by decide, rfl, .inr rfl⟩
  · cases h
  · cases h
  unfold ProducerInv; decide
theorem witness_EveryStateOfARunHasASuccessor : RunInv p1After4 :=
  ⟨wInv_slots, wInv_operands, wInv_scoreboard, wInv_producers, wInv_fetch, wInv_history, wInv_occupancy, wInv_counters,
   wInv_account, wInv_cap, wInv_afterStall⟩

/-! ### Runs and programs -/

/-- The state in which M1 (the empty program) ends after its only cycle. -/
def m1End (p : Params) : State :=
  { State.resetWith p [] true false with
    metrics := { Metrics.zero with totalCycles := 1 }, history := [⟨1, ⟨0, 0, 0, 0, 0⟩, .none, false, false⟩],
    done := true }
theorem witness_DrainedRunCompletesAllButTheDiscarded :
    RunsTo Params.default [] true false 1 (m1End Params.default) ∧ drained (m1End Params.default) = true ∧
      Params.default.stallIdPolicy = .bubble := ⟨rfl, by decide, rfl⟩
/-- The same clause on a run that discards an instruction: M3. -/
theorem witness_DrainedRunCompletesAllButTheDiscarded_M3 :
    ∃ t, RunsTo Params.default [0x08000010#32] true false 3 t ∧ drained t = true ∧
      t.metrics = ⟨3, 0, 1, 0, 1, 0, 0⟩ := ⟨_, rfl, by decide, by decide⟩
def holdParams : Params := { Params.default with stallIdPolicy := .hold }
theorem witness_DrainedRunCompletesAllButTheDiscarded_hold :
    RunsTo holdParams [] true false 1 (m1End holdParams) ∧ drained (m1End holdParams) = true ∧
      holdParams.stallIdPolicy = .hold := ⟨rfl, by decide, rfl⟩
theorem witness_BubbleRunTakesAtMostTwiceTheProgram :
    Params.default.stallIdPolicy = .bubble ∧ RunsTo Params.default [] true false 1 (m1End Params.default) := ⟨rfl, rfl⟩

/-- M7's program, the longest that the statement admits, and M4's, whose only word is control-class. -/
theorem wNoReuse (n : Nat) : NoReuse Params.default (List.replicate n 0x20000001#32) := by
  intro j w r hw h0 hr
  have hw' : w = 0x20000001#32 := List.eq_of_mem_replicate (List.mem_of_getElem? hw)
  subst hw'
  have h1 : decode Params.default 0x20000001#32 = ⟨some 0, none, some 0⟩ := by decide
  rw [h1] at hr
  rcases hr with hr | hr
  · exact absurd (Option.some.inj hr).symm h0
  · cases hr
theorem wNoControl_replicate (n : Nat) : NoControl Params.default (List.replicate n 0x20000001#32) := by
  intro w hw
  rw [List.eq_of_mem_replicate hw]
  decide
theorem witness_ProgramWithoutReuseRunsWithoutHazards_495 :
    NoReuse Params.default (List.replicate 495 0x20000001#32) ∧
      NoControl Params.default (List.replicate 495 0x20000001#32) ∧
      1 ≤ (List.replicate 495 0x20000001#32).length ∧ (List.replicate 495 0x20000001#32).length ≤ 495 :=
  ⟨wNoReuse 495, wNoControl_replicate 495, by rw [List.length_replicate]; omega, by rw [List.length_replicate]⟩
theorem witness_ProgramWithoutReuseRunsWithoutHazards_predicted :
    NoReuse Params.default [0x08000010#32] ∧ true = true ∧
      1 ≤ [0x08000010#32].length ∧ [0x08000010#32].length ≤ 495 := by
  refine ⟨?_, rfl, by simp, by simp⟩
  intro j w r hw h0 hr
  have hw' : w = 0x08000010#32 := by simpa using List.mem_of_getElem? hw
  subst hw'
  have h1 : decode Params.default 0x08000010#32 = ⟨none, none, none⟩ := by decide
  rw [h1] at hr
  rcases hr with hr | hr <;> cases hr

end Sys2Proof.Tests
end

section
/-! PROOFS. The class of a word and `is_load` (R57, R60, R75). Both obligations follow the three regions of the opcode map:
the zero word, the other words of opcode 0, and the words of opcode 1 to 63. -/

namespace Sys2Proof.Machine

/-! ## The class selection table, region by region -/

theorem classByLines_zero (p : Params) : classByLines p 0#32 = .zero := by simp [classByLines]

theorem classByLines_special (p : Params) (w : Word) (h0 : w ≠ 0#32) (h : opField w = 0#6) :
    classByLines p w =
      if fnField w = p.functJr then .jr else if fnField w = p.functJalr then .jalr else .reg := by
  simp [classByLines, h0, h]

/-- Lines 5 to 10 of R57: what the table says of a word of opcode 1 to 63 it says of the opcode alone. -/
theorem classByLines_opcode (p : Params) (w : Word) (h : opField w ≠ 0#6) :
    classByLines p w =
      if opField w = 2#6 then .jump else if opField w = 3#6 then .jumplink
      else if 4 ≤ (opField w).toNat ∧ (opField w).toNat ≤ 7 then .branch
      else if 32 ≤ (opField w).toNat ∧ (opField w).toNat ≤ 37 then .load
      else if 40 ≤ (opField w).toNat ∧ (opField w).toNat ≤ 43 then .store else .imm := by
  simp [classByLines, ne_zero_of_opField w h, h]

theorem cls_decodeSpecial (p : Params) (fa fb fc : RegIdx) (sh : BitVec 5) (fn : BitVec 6) :
    (decodeSpecial p fa fb fc sh fn).cls =
      if fn = p.functJr then .jr else if fn = p.functJalr then .jalr else .reg := by
  unfold decodeSpecial
  split
  · rfl
  · split <;> rfl

theorem cls_decodeInstr (p : Params) (w : Word) : (decodeInstr p w).cls = classByLines p w := by
  by_cases h : opField w = 0#6
  · by_cases h0 : w = 0#32
    · rw [h0, decodeInstr_zero, classByLines_zero]
      rfl
    · rw [decodeInstr_special p w h0 h, cls_decodeSpecial, classByLines_special p w h0 h]
  · rw [decodeInstr_opcode p w h, cls_decodeOpcode _ h, classByLines_opcode p w h]

/-- Settles O4: decoder and table agree on each of the three regions of the opcode map. -/
theorem classIsTheFirstMatchingLine : Obligations.ClassIsTheFirstMatchingLine := by
  unfold Obligations.ClassIsTheFirstMatchingLine
  exact cls_decodeInstr

/-! ## The load class -/

/-- The opcode is all that stands above bit 25, so R55's OP needs no reduction. -/
theorem opField_toNat_eq_div (w : Word) : (opField w).toNat = w.toNat / 2 ^ 26 := by
  have hw : w.toNat < 4294967296 := w.isLt
  rw [opField_toNat]
  omega

theorem isLoad_iff (w : Word) : isLoad w = true ↔ 32 ≤ (opField w).toNat ∧ (opField w).toNat ≤ 37 := by
  simp [isLoad]

/-- The first matching line is the load line exactly when the opcode is 32 to 37: no earlier line takes such a word, and no
other line answers `load`. -/
theorem classByLines_eq_load_iff (p : Params) (w : Word) :
    classByLines p w = .load ↔ 32 ≤ (opField w).toNat ∧ (opField w).toNat ≤ 37 := by
  constructor
  · intro h
    unfold classByLines at h
    split_ifs at h with _ _ _ _ _ _ _ hload
    exact hload
  · intro hload
    have h0 : opField w ≠ 0#6 := fun h => by simp [h] at hload
    have h2 : opField w ≠ 2#6 := fun h => by simp [h] at hload
    have h3 : opField w ≠ 3#6 := fun h => by simp [h] at hload
    have hbranch : ¬ (4 ≤ (opField w).toNat ∧ (opField w).toNat ≤ 7) := by omega
    rw [classByLines_opcode p w h0, if_neg h2, if_neg h3, if_neg hbranch, if_pos hload]

/-- Settles O6: `is_load` and the class selection table both ask the opcode, which is `w / 2^26`. -/
theorem isLoadIsOpcodes32To37 : Obligations.IsLoadIsOpcodes32To37 := by
  unfold Obligations.IsLoadIsOpcodes32To37
  refine ⟨fun w => ?_, by decide, fun p w => ?_⟩
  · rw [isLoad_iff, opField_toNat_eq_div]
  · rw [isLoad_iff, cls_decodeInstr, classByLines_eq_load_iff]

end Sys2Proof.Machine
end

section
/-! PROOFS. The operand triple of a word (R70). As R70 has it, the procedure selects the class of the word and returns
the triple of the class's rule, so the obligation is the class selection of R57 (O4) and one fact: the decoder's instruction
has the triple of its class over the register fields of the word. -/

namespace Sys2Proof.Machine

/-- The triple each class's rule gives over the register fields FA, FB and FC (R71 to R80). -/
def classOperands (fa fb fc : RegIdx) : DecodeClass → Operands
  | .zero => zeroOperands
  | .jr => jrOperands fa
  | .jalr => jalrOperands fa fc
  | .reg => regOperands fa fb fc
  | .jump => jumpOperands
  | .jumplink => jumplinkOperands
  | .branch => branchOperands fa fb
  | .load => loadOperands fa fb
  | .store => storeOperands fa fb
  | .imm => immOperands fa fb

/-- Line for line, the procedure of R70 is the class selection table of R57 with the triple in place of the class. -/
theorem decodeByProcedure_eq_classOperands (p : Params) (w : Word) :
    decodeByProcedure p w = classOperands (faField w) (fbField w) (fcField w) (classByLines p w) := by
  unfold decodeByProcedure classByLines
  split_ifs <;> rfl

/-! ## The decoder's instruction has its class's triple -/

theorem operandsOf_decodeSpecial (p : Params) (fa fb fc : RegIdx) (sh : BitVec 5) (fn : BitVec 6) :
    operandsOf (decodeSpecial p fa fb fc sh fn) = classOperands fa fb fc (decodeSpecial p fa fb fc sh fn).cls := by
  unfold decodeSpecial
  split_ifs <;> rfl

/-- No class of opcode 1 to 63 reads FC, so the triple is the same for every `fc`. -/
theorem operandsOf_decodeOpcode (op : Nat) (fa fb fc : RegIdx) (low : BitVec 16) (tg : BitVec 26) :
    operandsOf (decodeOpcode op fa fb low tg) = classOperands fa fb fc (decodeOpcode op fa fb low tg).cls := by
  unfold decodeOpcode
  split <;> rfl

theorem decode_eq_classOperands (p : Params) (w : Word) :
    decode p w = classOperands (faField w) (fbField w) (fcField w) (decodeInstr p w).cls := by
  unfold decode
  by_cases h : opField w = 0#6
  · by_cases h0 : w = 0#32
    · rw [h0, decodeInstr_zero]
      rfl
    · rw [decodeInstr_special p w h0 h, operandsOf_decodeSpecial]
  · rw [decodeInstr_opcode p w h, operandsOf_decodeOpcode _ _ _ (fcField w)]

/-- Settles O5: both sides are the triple of the class that R57 selects. -/
theorem decodeIsTheProcedure : Obligations.DecodeIsTheProcedure := by
  unfold Obligations.DecodeIsTheProcedure
  intro p w
  rw [decode_eq_classOperands, cls_decodeInstr, decodeByProcedure_eq_classOperands]

end Sys2Proof.Machine
end

section
/-! PROOFS. Steps 1 and 2 of the cycle (R92, R93): what leaves WB, and what moves into WB and MEM. -/

namespace Sys2Proof.Machine

/-! ## Step 2 -/

/-- After steps 1 and 2 nothing else of the cycle writes S[MEM] or S[WB]. -/
theorem exec_next_sMEM {i : Instr} {s t : State} (h : exec i s = .next t) : t.sMEM = s.sEX := by
  obtain ⟨c, -, rfl⟩ := (exec_eq_next i s t).mp h
  simp

theorem exec_next_sWB {i : Instr} {s t : State} (h : exec i s = .next t) : t.sWB = s.sMEM := by
  obtain ⟨c, -, rfl⟩ := (exec_eq_next i s t).mp h
  simp

/-- Settles O27: the copy is the definition of step 2, and the rest of the cycle, stalled or not, keeps both slots. -/
theorem memoryStepCopiesExInEveryCycle : Obligations.MemoryStepCopiesExInEveryCycle := by
  unfold Obligations.MemoryStepCopiesExInEveryCycle
  exact ⟨fun _ => rfl, fun _ _ _ h => ⟨exec_next_sMEM h, exec_next_sWB h⟩⟩

/-! ## Step 1 -/

theorem writebackStep_of_valid {s : State} (hv : s.sWB.valid = true) :
    writebackStep s = { s with
      metrics.totalInstructionsCompleted := s.metrics.totalInstructionsCompleted + 1,
      sb := s.sb.clear s.sWB.dest, sWB := s.sMEM } :=
  if_pos hv

theorem writebackStep_of_not_valid {s : State} (hv : s.sWB.valid = false) :
    writebackStep s = { s with sWB := s.sMEM } :=
  if_neg (Bool.eq_false_iff.mp hv)

theorem read_writebackStep_of_valid {s : State} (hv : s.sWB.valid = true) (r : RegIdx) :
    (writebackStep s).sb.read r = if s.sWB.dest = some r then none else s.sb.read r := by
  rw [writebackStep_sb, if_pos hv, read_clear]

/-- The register whose producer leaves WB in a cycle is free when that cycle's check reads the scoreboard. -/
theorem entryAtCheck_of_leaves_WB {s : State} {r : RegIdx} (hv : s.sWB.valid = true) (hd : s.sWB.dest = some r) :
    entryAtCheck s r = none :=
  if_pos ⟨hv, hd⟩

/-- R122: an operand whose entry is 0 adds nothing to the check. -/
theorem checkOperand_of_read_none {fwd exLoad : Bool} {sb : Scoreboard} {r : RegIdx} (c : Check)
    (hr : sb.read r = none) : checkOperand fwd exLoad sb (some r) c = some c := by
  simp [checkOperand, hr]

/-- Settles O28: the two branches of step 1, and a check of the same cycle that reads the entry step 1 has cleared. -/
theorem writebackCountsClearsAndCopies : Obligations.WritebackCountsClearsAndCopies := by
  unfold Obligations.WritebackCountsClearsAndCopies
  refine ⟨fun s hv => ⟨?_, read_writebackStep_of_valid hv⟩, fun s => writebackStep_of_not_valid, ?_⟩
  · rw [writebackStep_of_valid hv]
  · intro s r fwd exLoad c hv hd
    apply checkOperand_of_read_none
    rw [read_drainStages, entryAtCheck_of_leaves_WB hv hd]

end Sys2Proof.Machine
end

section
/-! PROOFS. The operand check of a skipped operand (R122): it ends before the scoreboard is read. -/

namespace Sys2Proof.Machine

@[simp] theorem checkOperand_none (fwd exLoad : Bool) (sb : Scoreboard) (c : Check) :
    checkOperand fwd exLoad sb none c = some c := rfl

@[simp] theorem checkOperand_zero (fwd exLoad : Bool) (sb : Scoreboard) (c : Check) :
    checkOperand fwd exLoad sb (some 0) c = some c := by
  rw [checkOperand, if_pos rfl]

/-- Settles O24: an absent operand takes the first arm of the check, register 0 the branch before the read. -/
theorem skippedOperandsChangeNothing : Obligations.SkippedOperandsChangeNothing := by
  unfold Obligations.SkippedOperandsChangeNothing
  exact fun fwd exLoad sb c => ⟨checkOperand_none fwd exLoad sb c, checkOperand_zero fwd exLoad sb c⟩

end Sys2Proof.Machine
end

section
/-! PROOFS. The history (R158): what a cycle appends to it, and that no step of a cycle reads it. -/

namespace Sys2Proof.Machine

/-- The cap decides, on the history the cycle starts with, whether the entry formed at its end is appended (R157, R158). -/
theorem exec_next_history {i : Instr} {s t : State} (h : exec i s = .next t) :
    t.history = if s.history.length < historyCap then s.history ++ [historyEntry t] else s.history := by
  obtain ⟨c, -, rfl⟩ := (exec_eq_next i s t).mp h
  simp [advance_history]

theorem withCheck_withHistory (c : Check) (s : State) (h : List HistoryEntry) :
    withCheck c (s.withHistory h) = (withCheck c s).withHistory h := rfl

/-- The check is the same under any history, and so is what follows it but for the history. -/
theorem exec_withHistory {i : Instr} {s t : State} (hn : exec i s = .next t) (h : List HistoryEntry) :
    ∃ h', exec i (s.withHistory h) = .next (t.withHistory h') := by
  obtain ⟨c, hc, rfl⟩ := (exec_eq_next i s t).mp hn
  obtain ⟨h', hadv⟩ := advance_withHistory (operandsOf i).dest (withCheck c (drainStages s)) h
  refine ⟨h', (exec_eq_next i _ _).mpr ⟨c, ?_, ?_⟩⟩
  · rw [drainStages_withHistory]
    exact hc
  · rw [drainStages_withHistory, withCheck_withHistory, hadv]

/-- Settles O30: the two sides of the cap are the branches of the append; the rest of the cycle does not read the history. -/
theorem historyIsAHardCeilingWithoutInfluence : Obligations.HistoryIsAHardCeilingWithoutInfluence := by
  unfold Obligations.HistoryIsAHardCeilingWithoutInfluence
  intro i s t hn
  have hhist := exec_next_history hn
  refine ⟨fun hlt => ⟨historyEntry t, ?_⟩, fun hge => ?_, exec_withHistory hn⟩
  · rw [hhist, if_pos hlt]
  · rw [hhist, if_neg (Nat.not_lt.mpr hge)]

end Sys2Proof.Machine
end

section
/-! PROOFS. The decoder and the encoder undo each other (R55, R57, R59, R63), and the control column of the opcode map
(R61). The cases follow the regions of the map: the zero word, the other words of opcode 0, the jumps with their 26-bit
target, and the words with two register fields and a low half. -/

namespace Sys2Proof.Machine

/-! ## Decoding an assembled word -/

theorem decodeInstr_specialWord (p : Params) {fa fb fc : RegIdx} {sh : BitVec 5} {fn : BitVec 6}
    (h : specialNonzero fa fb fc sh fn = true) :
    decodeInstr p (specialWord fa fb fc sh fn) = decodeSpecial p fa fb fc sh fn := by
  rw [decodeInstr_special p _ ((specialNonzero_iff ..).mp h) (opField_specialWord ..)]
  simp

theorem decodeInstr_iWord (p : Params) {op : BitVec 6} (h : op ≠ 0#6) (fa fb : RegIdx) (low : BitVec 16) :
    decodeInstr p (iWord op fa fb low)
      = decodeOpcode op.toNat fa fb low (targetField (iWord op fa fb low)) := by
  rw [decodeInstr_opcode p _ (by rwa [opField_iWord])]
  simp

theorem decodeInstr_jWord (p : Params) {op : BitVec 6} (h : op ≠ 0#6) (target : BitVec 26) :
    decodeInstr p (jWord op target)
      = decodeOpcode op.toNat (faField (jWord op target)) (fbField (jWord op target)) (lowField (jWord op target))
          target := by
  rw [decodeInstr_opcode p _ (by rwa [opField_jWord])]
  simp

theorem decodeInstr_encode (p : Params) (i : Instr) (hwf : i.wf p = true) : decodeInstr p (encode p i) = i := by
  cases i with
  | zero => exact decodeInstr_zero p
  | jr fa fb fc sh =>
    rw [encode, decodeInstr_specialWord p hwf, decodeSpecial, if_pos rfl]
  | jalr fa fb fc sh =>
    simp only [Instr.wf, Bool.and_eq_true, bne_iff_ne] at hwf
    obtain ⟨hnz, hne⟩ := hwf
    rw [encode, decodeInstr_specialWord p hnz, decodeSpecial, if_neg hne, if_pos rfl]
  | reg fa fb fc sh fn =>
    simp only [Instr.wf, Bool.and_eq_true, bne_iff_ne] at hwf
    obtain ⟨⟨hnz, hjr⟩, hjalr⟩ := hwf
    rw [encode, decodeInstr_specialWord p hnz, decodeSpecial, if_neg hjr, if_neg hjalr]
  | jump target => exact decodeInstr_jWord p (by decide) target
  | jumplink target => exact decodeInstr_jWord p (by decide) target
  | _ fa fb low => exact decodeInstr_iWord p (by decide) fa fb low

/-- Settles O2: the word of each row is assembled in one of three ways, and each assembled word decodes to its row. -/
theorem decodeOfEncodeGivesTheInstruction : Obligations.DecodeOfEncodeGivesTheInstruction := by
  unfold Obligations.DecodeOfEncodeGivesTheInstruction
  exact decodeInstr_encode

/-! ## Encoding a decoded word -/

theorem encode_decodeSpecial (p : Params) (fa fb fc : RegIdx) (sh : BitVec 5) (fn : BitVec 6) :
    encode p (decodeSpecial p fa fb fc sh fn) = specialWord fa fb fc sh fn := by
  unfold decodeSpecial
  split_ifs with hjr hjalr
  · rw [hjr, encode]
  · rw [hjalr, encode]
  · rw [encode]

/-- The branches of `decodeSpecial` are the conditions under which its rows are well-formed. -/
theorem wf_decodeSpecial (p : Params) {fa fb fc : RegIdx} {sh : BitVec 5} {fn : BitVec 6}
    (h : specialNonzero fa fb fc sh fn = true) : (decodeSpecial p fa fb fc sh fn).wf p = true := by
  unfold decodeSpecial
  split_ifs with hjr hjalr
  · rw [Instr.wf, ← hjr, h]
  · simp [Instr.wf, ← hjalr, h, hjr]
  · simp [Instr.wf, h, hjr, hjalr]

theorem wf_decodeInstr (p : Params) (w : Word) : (decodeInstr p w).wf p = true := by
  by_cases h : opField w = 0#6
  · by_cases h0 : w = 0#32
    · rw [h0, decodeInstr_zero, Instr.wf]
    · rw [decodeInstr_special p w h0 h]
      exact wf_decodeSpecial p ((specialNonzero_iff ..).mpr (by rwa [specialWord_fields w h]))
  · rw [decodeInstr_opcode p w h, wf_decodeOpcode]

theorem encode_decodeInstr (p : Params) (w : Word) : encode p (decodeInstr p w) = w := by
  by_cases h : opField w = 0#6
  · by_cases h0 : w = 0#32
    · rw [h0, decodeInstr_zero, encode]
    · rw [decodeInstr_special p w h0 h, encode_decodeSpecial, specialWord_fields w h]
  · rw [decodeInstr_opcode p w h, encode_decodeOpcode p _ h, jWord_fields, iWord_fields, ite_self]

/-- Settles O3: in each region of the opcode map the decoded instruction carries the fields of its word. -/
theorem encodeOfDecodeGivesTheWord : Obligations.EncodeOfDecodeGivesTheWord := by
  unfold Obligations.EncodeOfDecodeGivesTheWord
  exact fun p w => ⟨wf_decodeInstr p w, encode_decodeInstr p w⟩

/-- Settles O1: each word is evaluated. -/
theorem wordsDecodeAsTheMapSays : Obligations.WordsDecodeAsTheMapSays := by
  unfold Obligations.WordsDecodeAsTheMapSays
  decide

/-! ## The control classes -/

theorem controlOf_iff (p : Params) (i : Instr) :
    controlOf p i = true ↔ (i.cls = .jump ∨ i.cls = .jumplink ∨ i.cls = .branch) ∨
      (p.controlIncludesJr = true ∧ (i.cls = .jr ∨ i.cls = .jalr)) := by
  unfold controlOf
  cases i.cls <;> simp

/-- Lines 5 to 7 of R57 take the opcodes 2 to 7 and no other. -/
theorem classByLines_jump_or_branch_iff (p : Params) (w : Word) :
    (classByLines p w = .jump ∨ classByLines p w = .jumplink ∨ classByLines p w = .branch) ↔
      2 ≤ (opField w).toNat ∧ (opField w).toNat ≤ 7 := by
  by_cases h : opField w = 0#6
  · by_cases h0 : w = 0#32
    · subst h0
      rw [classByLines_zero]
      decide
    · rw [classByLines_special p w h0 h, h]
      split_ifs <;> decide
  · rw [classByLines_opcode p w h]
    simp only [BitVec.toNat_eq, BitVec.toNat_ofNat] at h ⊢
    split_ifs <;> simp <;> omega

theorem isControl_iff (p : Params) (w : Word) :
    isControl p w = true ↔ (2 ≤ (opField w).toNat ∧ (opField w).toNat ≤ 7) ∨
      (p.controlIncludesJr = true ∧ (classByLines p w = .jr ∨ classByLines p w = .jalr)) := by
  simp [isControl, cls_decodeInstr]

theorem isControl_eq_controlOf (p : Params) (w : Word) : isControl p w = controlOf p (decodeInstr p w) := by
  rw [Bool.eq_iff_iff, isControl_iff, controlOf_iff, cls_decodeInstr, classByLines_jump_or_branch_iff]

/-- Settles O7: `is_control` and the control column both ask the class of the word. -/
theorem isControlIsTheControlClasses : Obligations.IsControlIsTheControlClasses := by
  unfold Obligations.IsControlIsTheControlClasses
  intro p w
  refine ⟨isControl_eq_controlOf p w, ?_⟩
  rw [isControl_iff, opField_toNat_eq_div]

end Sys2Proof.Machine
end

section
/-! PROOFS. One cycle, for every instruction (R90 to R102, R120 to R131): the state after it, field by field, as the
relations `Drains`, `Issues`, `Stalls`, `Checks` and `Recorded` state it. Every later claim about a cycle or a step goes
through these relations. -/

namespace Sys2Proof.Machine

/-! ## The state after a cycle -/

theorem exec_next_metrics {i : Instr} {s t : State} (h : exec i s = .next t) :
    t.metrics =
      { metricsFrom (drainStages s).metrics (finding s (operandsOf i).src1) (finding s (operandsOf i).src2)
          (controlOf s.params i) with
        stallCycles := s.metrics.stallCycles + (if t.report.stallRequired then 1 else 0) } := by
  obtain ⟨-, -, c, hreport, hmetrics, rfl⟩ := exec_next h
  rw [advance_metrics, advance_report, withCheck_metrics, hmetrics, drainStages_metrics]
  rfl

theorem exec_next_sameInputs {i : Instr} {s t : State} (h : exec i s = .next t) : SameInputs s t := by
  obtain ⟨c, -, rfl⟩ := (exec_eq_next i s t).mp h
  constructor <;> simp

/-- Steps 1 and 2 are the same in every cycle (R91, R92, R93). -/
theorem exec_next_drains {i : Instr} {s t : State} (h : exec i s = .next t) : Drains s t where
  wb := exec_next_sWB h
  mem := exec_next_sMEM h
  total := by simp [exec_next_metrics h, metricsFrom, drainStages_metrics]
  completed := by simp [exec_next_metrics h, metricsFrom, drainStages_metrics]
  inputs := exec_next_sameInputs h

/-- R95, R96, R98, R133: steps 4 to 6 where the check demands no stall. -/
theorem exec_next_issues {i : Instr} {s t : State} (h : exec i s = .next t)
    (hstall : t.report.stallRequired = false) : Issues s (operandsOf i).dest t := by
  have hdrains := exec_next_drains h
  have hmetrics := exec_next_metrics h
  obtain ⟨c, -, rfl⟩ := (exec_eq_next i s t).mp h
  rw [advance_report, withCheck_report] at hstall
  exact
    { drains := hdrains
      ex := by simp [advance_sEX, hstall]
      id := by simp [advance_sID, hstall]
      fetched := fun w hw => by simp [advance_sIF, advance_fi, hstall, hw]
      exhausted := fun hnone => by simp [advance_sIF, advance_fi, hstall, hnone]
      scoreboard := fun r => by simp [advance_sb, hstall, read_mark, read_drainStages]
      stallCycles := by simp [hmetrics, hstall] }

/-- R95 to R99: steps 4 to 6 and the stall count where the check demands a stall. -/
theorem exec_next_stalls {i : Instr} {s t : State} (h : exec i s = .next t)
    (hstall : t.report.stallRequired = true) : Stalls s t := by
  have hdrains := exec_next_drains h
  have hmetrics := exec_next_metrics h
  obtain ⟨c, -, rfl⟩ := (exec_eq_next i s t).mp h
  rw [advance_report, withCheck_report] at hstall
  exact
    { drains := hdrains
      ex := by simp [advance_sEX, hstall]
      discards := fun hp => by simp [advance_sID, hstall, hp]
      holds := fun hp => by simp [advance_sID, hstall, hp]
      keepsIF := by simp [advance_sIF, hstall]
      keepsFI := by simp [advance_fi, hstall]
      scoreboard := fun r => by simp [advance_sb, hstall, read_drainStages]
      stallCycles := by simp [hmetrics, hstall] }

theorem exec_next_issues_or_stalls {i : Instr} {s t : State} (h : exec i s = .next t) :
    (t.report.stallRequired = false ∧ Issues s (operandsOf i).dest t) ∨
      (t.report.stallRequired = true ∧ Stalls s t) := by
  cases hstall : t.report.stallRequired with
  | false => exact .inl ⟨rfl, exec_next_issues h hstall⟩
  | true => exact .inr ⟨rfl, exec_next_stalls h hstall⟩

/-- The report and the hazard counters are those of the check; steps 4 to 6 write neither. -/
theorem exec_next_checks {i : Instr} {s t : State} (h : exec i s = .next t) :
    Checks s (operandsOf i) (controlOf s.params i) t where
  report := (exec_next h).2.1
  raws := by simp [exec_next_metrics h, metricsFrom, drainStages_metrics]
  loadUses := by simp [exec_next_metrics h, metricsFrom, drainStages_metrics]
  forwards := by simp [exec_next_metrics h, metricsFrom, drainStages_metrics]
  branches := by simp [exec_next_metrics h, metricsFrom, drainStages_metrics]

theorem drained_iff (s : State) :
    drained s = true ↔ s.fi = s.imem.length ∧ s.sIF.valid = false ∧ s.sID.valid = false ∧ s.sEX.valid = false
      ∧ s.sMEM.valid = false ∧ s.sWB.valid = false := by
  simp [drained, and_assoc]

theorem exec_next_done {i : Instr} {s t : State} (h : exec i s = .next t) :
    t.done = (s.done || drained t || t.metrics.totalCycles == cycleCap) := by
  obtain ⟨c, -, rfl⟩ := (exec_eq_next i s t).mp h
  rw [advance_done, withCheck_done, drainStages_done]

/-- R100 to R102, R157, R158: the append and the termination check, both on the state the cycle ends in. -/
theorem exec_next_recorded {i : Instr} {s t : State} (h : exec i s = .next t) : Recorded s t where
  history := exec_next_history h
  done hrunning := by simp [exec_next_done h, hrunning, drained_iff]

/-- Settles O26: the two outcomes of the check, and the counts, the append and the termination check around them. -/
theorem everyCycleIssuesOrStalls : Obligations.EveryCycleIssuesOrStalls := by
  unfold Obligations.EveryCycleIssuesOrStalls
  intro i s t h
  refine ⟨exec_next_issues_or_stalls h, exec_next_checks h, exec_next_recorded h, fun hdone => ?_⟩
  rw [exec_next_done h, hdone, Bool.true_or, Bool.true_or]

/-- Settles O31: the recorder and the termination check see the state the cycle leaves. -/
theorem cycleRecordsItselfAndEndsTheRun : Obligations.CycleRecordsItselfAndEndsTheRun := by
  unfold Obligations.CycleRecordsItselfAndEndsTheRun
  exact fun _ _ _ => exec_next_recorded

/-- The scoreboard after a cycle, stalled or not, at a register that the cycle does not mark (R134). -/
theorem exec_next_read_unmarked {i : Instr} {s t : State} {r : RegIdx} (h : exec i s = .next t)
    (hmark : t.report.stallRequired = true ∨ (operandsOf i).dest ≠ some r) :
    t.sb.read r = entryAtCheck s r := by
  obtain ⟨hno, hissues⟩ | ⟨-, hstalls⟩ := exec_next_issues_or_stalls h
  · have hdest : (operandsOf i).dest ≠ some r := hmark.resolve_left (by simp [hno])
    rw [hissues.scoreboard, if_neg (fun hd => hdest hd.1)]
  · exact hstalls.scoreboard r

/-- Settles O29: step 1 has cleared the entry before the check, and only a mark could set it again. -/
theorem writebackClearsWhoeverMarked : Obligations.WritebackClearsWhoeverMarked := by
  unfold Obligations.WritebackClearsWhoeverMarked
  intro i s t r h hvalid hdest hmark
  rw [exec_next_read_unmarked h hmark, entryAtCheck_of_leaves_WB hvalid hdest]

/-! ## Which cycles answer, and which are refused -/

/-- Settles O18: operands with a meaning give a next state, and every next state is as checked. -/
theorem checkReportsAndCountsWhatItFinds : Obligations.CheckReportsAndCountsWhatItFinds := by
  unfold Obligations.CheckReportsAndCountsWhatItFinds
  intro i s hm
  obtain ⟨t, ht⟩ := exec_defined hm
  exact ⟨t, ht, exec_next_checks ht⟩

/-- A cycle is refused on the ground of R128 only. -/
theorem exec_refused_iff (i : Instr) (s : State) (r : Refusal) :
    exec i s = .refused r ↔ ¬ CodesMeaningful i s ∧ r = .noForwardingSource := by
  rw [exec_eq_cycle, cycle_eq_refused]
  refine and_congr_left fun _ => ⟨fun hnone hm => ?_, fun hm => ?_⟩
  · obtain ⟨c, hc⟩ := hazardCheck_defined (controlOf s.params i) hm.1 hm.2
    simp [hnone] at hc
  · rw [Option.eq_none_iff_forall_ne_some]
    intro c hc
    obtain ⟨h1, h2, -⟩ := hazardCheck_some hc
    exact hm ⟨h1, h2⟩

/-- Settles O19: the check has no answer exactly when one of the two findings has no meaning. -/
theorem onlyMeaninglessCodesAreRefused : Obligations.OnlyMeaninglessCodesAreRefused := by
  unfold Obligations.OnlyMeaninglessCodesAreRefused
  exact exec_refused_iff

end Sys2Proof.Machine
end

section
/-! PROOFS. The cycle of each class in which its instruction completes (R71 to R80, R136), and the cycles in which a
data hazard or a control hazard holds it back (R121 to R131). -/

namespace Sys2Proof.Machine

/-! ## Operands that pass -/

theorem passes_of_nothing {s : State} {o : Operand} (h : finding s o = .nothing) : Passes s o := .inl h

theorem Passes.stalls {s : State} {o : Operand} (h : Passes s o) : (finding s o).stalls = false := by
  obtain h | ⟨st, r, h⟩ := h <;> rw [h] <;> rfl

theorem Passes.ne_noMeaning {s : State} {o : Operand} (h : Passes s o) : finding s o ≠ .noMeaning := by
  obtain h | ⟨st, r, h⟩ := h <;> rw [h] <;> nofun

/-- An instruction whose operands pass issues, unless a control stall is due: every class completes in this way. -/
theorem exec_issues_of_passes {i : Instr} {s : State} {ops : Operands} {control : Bool}
    (hops : operandsOf i = ops) (hcontrol : controlOf s.params i = control)
    (h1 : Passes s ops.src1) (h2 : Passes s ops.src2) (hpredicted : s.bp = true ∨ control = false) :
    ∃ t, exec i s = .next t ∧ Issues s ops.dest t ∧ Checks s ops control t := by
  subst hops hcontrol
  obtain ⟨t, ht⟩ := exec_defined ⟨h1.ne_noMeaning, h2.ne_noMeaning⟩
  have hchecks := exec_next_checks ht
  have hstall : t.report.stallRequired = false := by
    rw [hchecks.report, reportFrom, h1.stalls, h2.stalls]
    obtain hbp | hnot := hpredicted
    · simp [hbp]
    · simp [hnot]
  exact ⟨t, ht, exec_next_issues ht hstall, hchecks⟩

/-! ## Nothing is found -/

/-- R136: a check that finds nothing on either operand leaves the three data-hazard counters. -/
theorem Checks.data_counters_of_nothing {s t : State} {ops : Operands} {control : Bool} (h : Checks s ops control t)
    (h1 : finding s ops.src1 = .nothing) (h2 : finding s ops.src2 = .nothing) :
    t.metrics.rawHazardCount = s.metrics.rawHazardCount ∧ t.metrics.loadUseStalls = s.metrics.loadUseStalls ∧
      t.metrics.forwardCount = s.metrics.forwardCount := by
  obtain ⟨-, hraws, hloads, hforwards, -⟩ := h
  rw [h1, h2] at hraws hloads hforwards
  exact ⟨hraws, hloads, hforwards⟩

theorem finding_of_absent_or_zero {s : State} {o : Operand} (h : o = none ∨ o = some 0) : finding s o = .nothing := by
  obtain rfl | rfl := h <;> simp

/-- Settles O25: both operands are skipped, so both pass and nothing is counted. -/
theorem nothingInIdFindsNothing : Obligations.NothingInIdFindsNothing := by
  unfold Obligations.NothingInIdFindsNothing
  intro i s hsrc1 hsrc2 hcontrol
  have h1 : finding s (operandsOf i).src1 = .nothing := finding_of_absent_or_zero hsrc1
  have h2 : finding s (operandsOf i).src2 = .nothing := finding_of_absent_or_zero hsrc2
  obtain ⟨t, ht, hissues, hchecks⟩ :=
    exec_issues_of_passes rfl hcontrol (passes_of_nothing h1) (passes_of_nothing h2) (.inr rfl)
  obtain ⟨hraws, hloads, hforwards⟩ := hchecks.data_counters_of_nothing h1 h2
  have hreport := hchecks.report
  rw [h1, h2] at hreport
  exact ⟨t, ht, hissues, hreport, hraws, hloads, hforwards, hchecks.branches⟩

/-- Settles O8: ZERO has no sources and is not control-class. -/
theorem zeroIssuesAndFindsNothing : Obligations.ZeroIssuesAndFindsNothing := by
  unfold Obligations.ZeroIssuesAndFindsNothing
  exact fun s => nothingInIdFindsNothing .zero s (.inl rfl) (.inl rfl) rfl

/-! ## The classes without a control hazard -/

/-- Settles O9: the cycle of two sources that pass. -/
theorem regIssuesWhenBothSourcesPass : Obligations.RegIssuesWhenBothSourcesPass := by
  unfold Obligations.RegIssuesWhenBothSourcesPass
  intro fa fb fc sh fn s hfa hfb
  obtain ⟨t, ht, hissues, hchecks⟩ :=
    exec_issues_of_passes (i := .reg fa fb fc sh fn) (ops := regOperands fa fb fc) rfl rfl hfa hfb (.inr rfl)
  exact ⟨t, ht, hissues, hchecks.report⟩

theorem immForms_spec : ∀ mk ∈ immForms, ∀ fa fb low,
    (mk fa fb low).cls = .imm ∧ operandsOf (mk fa fb low) = immOperands fa fb := by
  intro mk hmk
  fin_cases hmk <;> exact fun _ _ _ => ⟨rfl, rfl⟩

theorem loadForms_spec : ∀ mk ∈ loadForms, ∀ fa fb low,
    (mk fa fb low).cls = .load ∧ operandsOf (mk fa fb low) = loadOperands fa fb := by
  intro mk hmk
  fin_cases hmk <;> exact fun _ _ _ => ⟨rfl, rfl⟩

theorem storeForms_spec : ∀ mk ∈ storeForms, ∀ fa fb low,
    (mk fa fb low).cls = .store ∧ operandsOf (mk fa fb low) = storeOperands fa fb := by
  intro mk hmk
  fin_cases hmk <;> exact fun _ _ _ => ⟨rfl, rfl⟩

theorem branchForms_spec : ∀ mk ∈ branchForms, ∀ fa fb low,
    (mk fa fb low).cls = .branch ∧ operandsOf (mk fa fb low) = branchOperands fa fb := by
  intro mk hmk
  fin_cases hmk <;> exact fun _ _ _ => ⟨rfl, rfl⟩

/-- Settles O10: every form has the operands of class IMM, whose second source is absent. -/
theorem immFormsIssueWhenTheSourcePasses : Obligations.ImmFormsIssueWhenTheSourcePasses := by
  unfold Obligations.ImmFormsIssueWhenTheSourcePasses
  intro mk hmk fa fb low s hfa
  obtain ⟨hcls, hops⟩ := immForms_spec mk hmk fa fb low
  obtain ⟨t, ht, hissues, hchecks⟩ :=
    exec_issues_of_passes (control := false) hops (by rw [controlOf, hcls]) hfa (passes_of_nothing rfl) (.inr rfl)
  exact ⟨t, ht, hissues, hchecks.report⟩

/-- Settles O11: every form has the operands of class LOAD, whose second source is absent. -/
theorem loadFormsIssueWhenTheBasePasses : Obligations.LoadFormsIssueWhenTheBasePasses := by
  unfold Obligations.LoadFormsIssueWhenTheBasePasses
  intro mk hmk fa fb low s hfa
  obtain ⟨hcls, hops⟩ := loadForms_spec mk hmk fa fb low
  obtain ⟨t, ht, hissues, hchecks⟩ :=
    exec_issues_of_passes (control := false) hops (by rw [controlOf, hcls]) hfa (passes_of_nothing rfl) (.inr rfl)
  exact ⟨t, ht, hissues, hchecks.report⟩

/-- Settles O12: every form has the operands of class STORE. -/
theorem storeFormsIssueWhenBothSourcesPass : Obligations.StoreFormsIssueWhenBothSourcesPass := by
  unfold Obligations.StoreFormsIssueWhenBothSourcesPass
  intro mk hmk fa fb low s hfa hfb
  obtain ⟨hcls, hops⟩ := storeForms_spec mk hmk fa fb low
  obtain ⟨t, ht, hissues, hchecks⟩ :=
    exec_issues_of_passes (control := false) hops (by rw [controlOf, hcls]) hfa hfb (.inr rfl)
  exact ⟨t, ht, hissues, hchecks.report⟩

/-! ## The control classes -/

/-- Settles O13: with prediction on the control check demands no stall. -/
theorem branchFormsIssueWithPrediction : Obligations.BranchFormsIssueWithPrediction := by
  unfold Obligations.BranchFormsIssueWithPrediction
  intro mk hmk fa fb low s hbp hfa hfb
  obtain ⟨hcls, hops⟩ := branchForms_spec mk hmk fa fb low
  obtain ⟨t, ht, hissues, hchecks⟩ :=
    exec_issues_of_passes (control := true) hops (by rw [controlOf, hcls]) hfa hfb (.inl hbp)
  exact ⟨t, ht, hissues, hbp ▸ hchecks.report, hchecks.branches⟩

/-- Settles O14: JUMP has no operands, so only the control check reports. -/
theorem jumpIssuesWithPrediction : Obligations.JumpIssuesWithPrediction := by
  unfold Obligations.JumpIssuesWithPrediction
  intro target s hbp
  obtain ⟨t, ht, hissues, hchecks⟩ := exec_issues_of_passes (i := .jump target) (ops := jumpOperands) rfl rfl
    (passes_of_nothing rfl) (passes_of_nothing rfl) (.inl hbp)
  have hreport := hchecks.report
  rw [hbp] at hreport
  exact ⟨t, ht, hissues, hreport, hchecks.branches⟩

/-- Settles O15: as JUMP, with the mark of the link register. -/
theorem jumplinkIssuesWithPrediction : Obligations.JumplinkIssuesWithPrediction := by
  unfold Obligations.JumplinkIssuesWithPrediction
  intro target s hbp
  obtain ⟨t, ht, hissues, hchecks⟩ := exec_issues_of_passes (i := .jumplink target) (ops := jumplinkOperands) rfl rfl
    (passes_of_nothing rfl) (passes_of_nothing rfl) (.inl hbp)
  have hreport := hchecks.report
  rw [hbp] at hreport
  have hmark : t.sb.read 31 = some .execute := by
    rw [hissues.scoreboard, if_pos (by decide)]
  exact ⟨t, ht, hissues, hmark, hreport, hchecks.branches⟩

/-- Settles O16: the control flag of JR is the parameter. -/
theorem jrIssuesWhenItsSourcePasses : Obligations.JrIssuesWhenItsSourcePasses := by
  unfold Obligations.JrIssuesWhenItsSourcePasses
  intro fa fb fc sh s hpredicted hfa
  obtain ⟨t, ht, hissues, hchecks⟩ := exec_issues_of_passes (i := .jr fa fb fc sh) (ops := jrOperands fa) rfl rfl
    hfa (passes_of_nothing rfl) hpredicted
  exact ⟨t, ht, hissues, hchecks.report, hchecks.branches⟩

/-- Settles O17: as JR, with the destination FC. -/
theorem jalrIssuesWhenItsSourcePasses : Obligations.JalrIssuesWhenItsSourcePasses := by
  unfold Obligations.JalrIssuesWhenItsSourcePasses
  intro fa fb fc sh s hpredicted hfa
  obtain ⟨t, ht, hissues, hchecks⟩ := exec_issues_of_passes (i := .jalr fa fb fc sh) (ops := jalrOperands fa fc) rfl rfl
    hfa (passes_of_nothing rfl) hpredicted
  exact ⟨t, ht, hissues, hchecks.report, hchecks.branches⟩

/-- Settles O22: the report with the control flag set, and the outcome that its stall flag selects. -/
theorem controlHazardIsReportedOverDataHazards : Obligations.ControlHazardIsReportedOverDataHazards := by
  unfold Obligations.ControlHazardIsReportedOverDataHazards
  intro i s hm hcontrol
  obtain ⟨t, ht⟩ := exec_defined hm
  obtain ⟨hreport, hraws, hloads, hforwards, hbranches⟩ := exec_next_checks ht
  rw [hcontrol] at hreport hbranches
  refine ⟨t, ht, ?_, hbranches, hraws, hloads, hforwards, exec_next_issues ht, exec_next_stalls ht⟩
  simp [hreport, reportFrom]

/-! ## Operands that stall -/

theorem Finding.hazards_of_stalls {f : Finding} (h : f.stalls = true) : f.hazards = true := by
  cases f with
  | loadUse | rawStall => rfl
  | nothing | forwarded st r | noMeaning => cases h

/-- One operand that demands a stall is enough, whatever is found on the other and by the control check (R129, R131). -/
theorem exec_stalls_of_finding {i : Instr} {s : State} (hm : CodesMeaningful i s)
    (hf : (finding s (operandsOf i).src1).stalls = true ∨ (finding s (operandsOf i).src2).stalls = true) :
    ∃ t, exec i s = .next t ∧ Stalls s t ∧ Checks s (operandsOf i) (controlOf s.params i) t ∧
      t.report.detected = true ∧ t.report.stallRequired = true ∧
      t.metrics.rawHazardCount = s.metrics.rawHazardCount + 1 := by
  obtain ⟨t, ht⟩ := exec_defined hm
  have hchecks := exec_next_checks ht
  have hstalls : ((finding s (operandsOf i).src1).stalls || (finding s (operandsOf i).src2).stalls) = true := by
    simpa using hf
  have hhazards : ((finding s (operandsOf i).src1).hazards || (finding s (operandsOf i).src2).hazards) = true := by
    simpa using hf.imp Finding.hazards_of_stalls Finding.hazards_of_stalls
  have hstall : t.report.stallRequired = true := by rw [hchecks.report, reportFrom, hstalls, Bool.true_or]
  refine ⟨t, ht, exec_next_stalls ht hstall, hchecks, ?_, hstall, ?_⟩
  · rw [hchecks.report, reportFrom, hhazards, Bool.true_or]
  · rw [hchecks.raws, if_pos hhazards]

/-- What is found on a register is found on the source that names it. -/
theorem finding_of_source {s : State} {ops : Operands} {r : RegIdx} (P : Finding → Prop)
    (hsrc : ops.src1 = some r ∨ ops.src2 = some r) (h : P (finding s (some r))) :
    P (finding s ops.src1) ∨ P (finding s ops.src2) :=
  hsrc.imp (fun h1 => by rwa [h1]) (fun h2 => by rwa [h2])

theorem finding_loadUse {s : State} {r : RegIdx} (h0 : r ≠ 0) (he : entryAtCheck s r = some .execute)
    (hload : isLoad s.sEX.word = true) : finding s (some r) = .loadUse := by
  rw [finding_busy h0 he, if_pos ⟨rfl, hload⟩]

/-- Settles O20: the source is a load-use hazard, which stalls and counts one load-use. -/
theorem loadInExStallsABusySource : Obligations.LoadInExStallsABusySource := by
  unfold Obligations.LoadInExStallsABusySource
  intro i s r h0 hsrc he hload hm
  have hf : finding s (operandsOf i).src1 = .loadUse ∨ finding s (operandsOf i).src2 = .loadUse :=
    finding_of_source (· = .loadUse) hsrc (finding_loadUse h0 he hload)
  obtain ⟨t, ht, hstalls, hchecks, hdetected, hstall, hraws⟩ :=
    exec_stalls_of_finding hm (hf.imp (fun h => by rw [h]; rfl) (fun h => by rw [h]; rfl))
  refine ⟨t, ht, hstalls, hdetected, hstall, hraws, ?_⟩
  rw [hchecks.loadUses]
  obtain h | h := hf <;> rw [h, Finding.loadUses] <;> omega

/-- R127: with forwarding disabled a busy register is a load-use hazard or a plain stall. -/
theorem finding_without_forwarding {s : State} (hfwd : s.fwd = false) (o : Operand) :
    finding s o = .nothing ∨ finding s o = .loadUse ∨ finding s o = .rawStall := by
  cases o with
  | none => exact .inl rfl
  | some r =>
    by_cases h0 : r = 0
    · exact .inl (by rw [h0, finding_zero])
    · cases he : entryAtCheck s r with
      | none => exact .inl (finding_free he)
      | some st =>
        rw [finding_busy h0 he, if_pos hfwd]
        split <;> simp

theorem codesMeaningful_without_forwarding {s : State} (hfwd : s.fwd = false) (i : Instr) : CodesMeaningful i s := by
  have key : ∀ o, finding s o ≠ .noMeaning := fun o => by
    obtain h | h | h := finding_without_forwarding hfwd o <;> rw [h] <;> nofun
  exact ⟨key _, key _⟩

theorem finding_forwards_without_forwarding {s : State} (hfwd : s.fwd = false) (o : Operand) :
    (finding s o).record = none ∧ (finding s o).forwards = 0 := by
  obtain h | h | h := finding_without_forwarding hfwd o <;> rw [h] <;> exact ⟨rfl, rfl⟩

theorem finding_stalls_without_forwarding {s : State} (hfwd : s.fwd = false) {r : RegIdx} (h0 : r ≠ 0)
    (he : entryAtCheck s r ≠ none) : (finding s (some r)).stalls = true := by
  obtain ⟨st, hst⟩ := Option.ne_none_iff_exists'.mp he
  rw [finding_busy h0 hst, if_pos hfwd]
  split <;> rfl

/-- Settles O21: the busy source stalls, and with forwarding disabled no finding writes a record or counts a forward. -/
theorem busySourceStallsWithoutForwarding : Obligations.BusySourceStallsWithoutForwarding := by
  unfold Obligations.BusySourceStallsWithoutForwarding
  intro i s r h0 hsrc he hfwd
  have hf : (finding s (operandsOf i).src1).stalls = true ∨ (finding s (operandsOf i).src2).stalls = true :=
    finding_of_source (·.stalls = true) hsrc (finding_stalls_without_forwarding hfwd h0 he)
  obtain ⟨t, ht, hstalls, hchecks, -, -, hraws⟩ :=
    exec_stalls_of_finding (codesMeaningful_without_forwarding hfwd i) hf
  obtain ⟨hrecord1, hforwards1⟩ := finding_forwards_without_forwarding hfwd (operandsOf i).src1
  obtain ⟨hrecord2, hforwards2⟩ := finding_forwards_without_forwarding hfwd (operandsOf i).src2
  refine ⟨t, ht, hstalls, ?_, ?_, hraws⟩
  · rw [hchecks.report, reportFrom, hrecord1, hrecord2, Option.or_none]
  · rw [hchecks.forwards, hforwards1, hforwards2, Nat.add_zero]

/-- Settles O23: neither R125 nor R126 applies, so the check of the busy operand ends in R127. -/
theorem operandWithoutForwardingStalls : Obligations.OperandWithoutForwardingStalls := by
  unfold Obligations.OperandWithoutForwardingStalls
  intro exLoad sb r st c h0 hbusy hnot
  have hcheck : checkOperand false exLoad sb (some r) c = checkBusy false exLoad st r c := by
    simp [checkOperand, h0, hbusy]
  rw [hcheck, checkBusy, if_neg hnot]
  rfl

end Sys2Proof.Machine
end

section
/-! PROOFS. The step, reset and the result (R29, R90, R103, R160, R190 to R194). -/

namespace Sys2Proof.Machine

/-! ## The step -/

/-- Settles O32: the instruction in ID is the decode of its word, so the step takes the branch of its cycle. -/
theorem stepRunsTheStandingInstruction : Obligations.StepRunsTheStandingInstruction := by
  unfold Obligations.StepRunsTheStandingInstruction
  exact fun _ hrunning hdecoded => step_eq_exec hrunning hdecoded

theorem tableWord_toNat (w : Word) : tableWord 32 w.toNat = w := by
  rw [tableWord, Nat.mod_eq_of_lt w.isLt, BitVec.ofNat_toNat, BitVec.setWidth_eq]

/-- Settles O33: the placed word stands in ID with its decode, in a run that is not over. -/
theorem placedWordIsRunByTheNextStep : Obligations.PlacedWordIsRunByTheNextStep := by
  unfold Obligations.PlacedWordIsRunByTheNextStep
  intro s w
  rw [State.withFetchWord, tableWord_toNat]
  exact step_eq_exec rfl rfl

/-- Settles O34: the first branch of the step. -/
theorem stepOnADoneInstanceChangesNothing : Obligations.StepOnADoneInstanceChangesNothing := by
  unfold Obligations.StepOnADoneInstanceChangesNothing
  exact fun _ => step_done

theorem operandsDecoded_iff (s : State) :
    operandsDecoded s = true ↔ s.sID.operands = decode s.params s.sID.word := by
  rw [operandsDecoded, beq_iff_eq, standing, decode]

/-- Settles O35: of the three branches of the step, the identity refuses nothing, the cycle refuses on the ground of
R128, and the last refuses on the ground of U4. -/
theorem stepIsRefusedOnlyOutsideTheSpec : Obligations.StepIsRefusedOnlyOutsideTheSpec := by
  unfold Obligations.StepIsRefusedOnlyOutsideTheSpec
  intro s r
  cases hdone : s.done with
  | true => simp [step_done hdone]
  | false =>
    by_cases hdecoded : s.sID.operands = decode s.params s.sID.word
    · rw [step_eq_exec hdone hdecoded, exec_refused_iff]
      simp [hdecoded, standing]
    · have hbranch : operandsDecoded s = false := by rwa [Bool.eq_false_iff, Ne, operandsDecoded_iff]
      simp [step, hdone, hbranch, hdecoded, eq_comm]

/-! ## Reset -/

/-- Settles O36: the fields of the reset state. -/
theorem resetLeavesTheResetTable : Obligations.ResetLeavesTheResetTable := by
  unfold Obligations.ResetLeavesTheResetTable
  intro p imem fwd bp
  exact ⟨rfl, rfl, rfl, rfl, rfl, read_replicate, rfl, rfl, rfl, rfl, rfl, rfl, rfl, rfl⟩

/-- Settles O37: reset takes nothing from the state but the parameters. -/
theorem resetForgetsTheRun : Obligations.ResetForgetsTheRun := by
  unfold Obligations.ResetForgetsTheRun
  intro s u imem fwd bp hparams
  exact ⟨by rw [resetOp, resetOp, hparams], rfl⟩

theorem drained_of_valid_sIF {s : State} (h : s.sIF.valid = true) : drained s = false := by
  simp [drained, h]

/-- Settles O38: the bubble in ID finds nothing, the drain moves bubbles, and a word in IF keeps the run going. -/
theorem firstCycleOnlyFetches : Obligations.FirstCycleOnlyFetches := by
  unfold Obligations.FirstCycleOnlyFetches
  intro p w rest fwd bp s
  have hexec : step s = exec .zero s := step_eq_exec rfl rfl
  rw [hexec, exec_eq_next]
  refine ⟨⟨.empty, { Metrics.zero with totalCycles := 1 }, false⟩, rfl, ?_⟩
  rw [advance, terminationCheck, drained_of_valid_sIF rfl]
  rfl

/-! ## The result -/

/-- R155: the guard against a zero divisor. -/
theorem cpiOf_eq (m : Metrics) : cpiOf m = ⟨m.totalCycles,
    if m.totalInstructionsCompleted = 0 then 1 else m.totalInstructionsCompleted⟩ := by
  by_cases h : m.totalInstructionsCompleted = 0
  · simp [cpiOf, h]
  · simp [cpiOf, h, Nat.pos_of_ne_zero h]

/-- Settles O60: `result` answers in the branch of a done state, with the bundle field by field. -/
theorem resultAnswersExactlyWhenDone : Obligations.ResultAnswersExactlyWhenDone := by
  unfold Obligations.ResultAnswersExactlyWhenDone
  refine ⟨fun s => ?_, fun s r => ?_⟩
  · cases hdone : s.done with
    | true => simp [result_done hdone]
    | false => simp [result_running hdone]
  · cases hdone : s.done with
    | true =>
      rw [result_done hdone, bundle, cpiOf_eq]
      obtain ⟨metrics, cpi, history, finalIF, finalID, finalEX, finalMEM, finalWB, lastReport⟩ := r
      simp [eq_comm]
    | false => simp [result_running hdone]

end Sys2Proof.Machine
end

section
/-! PROOFS. What every step keeps (R11, R13, R15, R16, R17, R102, R105, R106, R107, R134, R159, R161). A step that
answers next is one of three things: the identity on a finished run, a cycle that issues, a cycle that stalls. Each
invariant is one case analysis on them. -/

namespace Sys2Proof.Machine

/-! ## What a step can do -/

/-- What the cycle of a step does whether it issues or stalls, in terms of the slot in ID that it runs. -/
structure Cycled (s t : State) : Prop where
  decoded : s.sID.operands = decode s.params s.sID.word
  drains : Drains s t
  checks : Checks s s.sID.operands (isControl s.params s.sID.word) t
  recorded : Recorded s t
  stallCycles : t.metrics.stallCycles = s.metrics.stallCycles + (if t.report.stallRequired then 1 else 0)

/-- The three outcomes of a step that answers next. -/
inductive StepOutcome (s t : State) : Prop
  | idle (hdone : s.done = true) (heq : t = s)
  | issued (hrunning : s.done = false) (hcycled : Cycled s t) (hstall : t.report.stallRequired = false)
      (hissues : Issues s s.sID.dest t)
  | stalled (hrunning : s.done = false) (hcycled : Cycled s t) (hstall : t.report.stallRequired = true)
      (hstalls : Stalls s t)

theorem stepOutcome_of_next {s t : State} (h : step s = .next t) : StepOutcome s t := by
  obtain ⟨hdone, heq⟩ | ⟨hrunning, hdecoded, hexec⟩ := step_cases h
  · exact .idle hdone heq
  · have hdest : (operandsOf (standing s)).dest = s.sID.dest := by rw [← hdecoded, Slot.operands]
    have hcycled : Cycled s t :=
      { decoded := hdecoded
        drains := exec_next_drains hexec
        checks := by
          rw [hdecoded, isControl_eq_controlOf]
          exact exec_next_checks hexec
        recorded := exec_next_recorded hexec
        stallCycles := by rw [exec_next_metrics hexec] }
    obtain ⟨hstall, hissues⟩ | ⟨hstall, hstalls⟩ := exec_next_issues_or_stalls hexec
    · exact .issued hrunning hcycled hstall (hdest ▸ hissues)
    · exact .stalled hrunning hcycled hstall hstalls

/-- The two outcomes where it does not matter whether the cycle stalls. -/
theorem idle_or_cycled {s t : State} (h : step s = .next t) :
    (s.done = true ∧ t = s) ∨ (s.done = false ∧ Cycled s t) := by
  cases stepOutcome_of_next h with
  | idle hdone heq => exact .inl ⟨hdone, heq⟩
  | issued hrunning hcycled _ _ => exact .inr ⟨hrunning, hcycled⟩
  | stalled hrunning hcycled _ _ => exact .inr ⟨hrunning, hcycled⟩

theorem cycled_of_step {s t : State} (hrunning : s.done = false) (h : step s = .next t) : Cycled s t := by
  obtain ⟨hdone, -⟩ | ⟨-, hcycled⟩ := idle_or_cycled h
  · simp [hrunning] at hdone
  · exact hcycled

/-- A step of a run that is not over answers next when the word in ID is decoded and its operands have a meaning. -/
theorem step_defined {s : State} (hrunning : s.done = false) (hdecoded : s.sID.operands = decode s.params s.sID.word)
    (h1 : finding s s.sID.src1 ≠ .noMeaning) (h2 : finding s s.sID.src2 ≠ .noMeaning) : ∃ t, step s = .next t := by
  rw [step_eq_exec hrunning hdecoded]
  have hops : s.sID.operands = operandsOf (standing s) := hdecoded
  exact exec_defined (by rw [CodesMeaningful, ← hops]; exact ⟨h1, h2⟩)

theorem Issues.fetch_cases {s t : State} {dest : Operand} (h : Issues s dest t) :
    (∃ w, s.imem[s.fi]? = some w ∧ t.sIF = Slot.fetched w (pcLabel s.params s.fi) ∧ t.fi = s.fi + 1) ∨
      (s.imem[s.fi]? = none ∧ t.sIF = Slot.bubble ∧ t.fi = s.fi) := by
  cases hw : s.imem[s.fi]? with
  | some w => exact .inl ⟨w, rfl, h.fetched w hw⟩
  | none => exact .inr ⟨rfl, h.exhausted hw⟩

theorem Stalls.sID_cases {s t : State} (h : Stalls s t) : t.sID = Slot.bubble ∨ t.sID = s.sID := by
  cases hp : s.params.stallIdPolicy with
  | bubble => exact .inl (h.discards hp)
  | hold => exact .inr (h.holds hp)

/-! ## The slots -/

theorem bubbleForm_bubble : Slot.bubble.bubbleForm := fun _ => ⟨rfl, rfl⟩

theorem bubbleForm_of_valid {x : Slot} (h : x.valid = true) : x.bubbleForm := fun hinvalid => by
  simp [h] at hinvalid

theorem Slot.bubbleForm.decoded {x : Slot} (h : x.bubbleForm) (p : Params) : (x.decoded p).bubbleForm := by
  intro hinvalid
  obtain ⟨hword, -⟩ := h hinvalid
  rw [decoded_word, decoded_operands, hword]
  exact ⟨rfl, decode_zero p⟩

theorem Slot.bubbleForm.dest_eq_none {x : Slot} (h : x.bubbleForm) (hinvalid : x.valid = false) : x.dest = none :=
  congrArg Operands.dest (h hinvalid).2

theorem SlotsInv.step {s t : State} (hs : SlotsInv s) (h : step s = .next t) : SlotsInv t := by
  cases stepOutcome_of_next h with
  | idle _ heq => exact heq ▸ hs
  | issued _ hcycled _ hissues =>
    refine ⟨?_, ?_, ?_, ?_, ?_⟩
    · obtain ⟨w, -, hIF, -⟩ | ⟨-, hIF, -⟩ := hissues.fetch_cases
      · exact hIF ▸ bubbleForm_of_valid (fetched_valid w _)
      · exact hIF ▸ bubbleForm_bubble
    · exact hissues.id ▸ hs.sIF.decoded s.params
    · exact hissues.ex ▸ hs.sID
    · exact hcycled.drains.mem ▸ hs.sEX
    · exact hcycled.drains.wb ▸ hs.sMEM
  | stalled _ hcycled _ hstalls =>
    refine ⟨?_, ?_, ?_, ?_, ?_⟩
    · exact hstalls.keepsIF ▸ hs.sIF
    · obtain hID | hID := hstalls.sID_cases
      · exact hID ▸ bubbleForm_bubble
      · exact hID ▸ hs.sID
    · exact hstalls.ex ▸ bubbleForm_bubble
    · exact hcycled.drains.mem ▸ hs.sEX
    · exact hcycled.drains.wb ▸ hs.sMEM

/-- Settles O40: every slot after a step is a slot before it, a bubble, a fetched word, or the decoded slot of IF. -/
theorem stepKeepsTheSlotInvariant : Obligations.StepKeepsTheSlotInvariant := by
  unfold Obligations.StepKeepsTheSlotInvariant
  exact fun _ _ => SlotsInv.step

theorem bubble_operands_eq_decode (p : Params) : Slot.bubble.operands = decode p Slot.bubble.word := by
  rw [bubble_operands, bubble_word, decode_zero]

theorem OperandsInv.step {s t : State} (hs : OperandsInv s) (h : step s = .next t) : OperandsInv t := by
  cases stepOutcome_of_next h with
  | idle _ heq => exact heq ▸ hs
  | issued _ hcycled _ hissues =>
    have hparams := hcycled.drains.inputs.params
    refine ⟨?_, ?_, ?_, ?_, ?_⟩
    · obtain ⟨w, -, hIF, -⟩ | ⟨-, hIF, -⟩ := hissues.fetch_cases
      · rw [hIF, fetched_operands]
      · rw [hIF, bubble_operands]
    · rw [hparams, hissues.id, decoded_operands, decoded_word]
    · rw [hparams, hissues.ex, hs.sID]
    · rw [hparams, hcycled.drains.mem, hs.sEX]
    · rw [hparams, hcycled.drains.wb, hs.sMEM]
  | stalled _ hcycled _ hstalls =>
    have hparams := hcycled.drains.inputs.params
    refine ⟨?_, ?_, ?_, ?_, ?_⟩
    · rw [hstalls.keepsIF, hs.sIF]
    · obtain hID | hID := hstalls.sID_cases
      · rw [hID, bubble_operands_eq_decode]
      · rw [hparams, hID, hs.sID]
    · rw [hstalls.ex, bubble_operands_eq_decode]
    · rw [hparams, hcycled.drains.mem, hs.sEX]
    · rw [hparams, hcycled.drains.wb, hs.sMEM]

/-- Settles O41: IF receives undecoded words, ID the decode of IF, and the later slots copies. -/
theorem stepKeepsTheOperandFields : Obligations.StepKeepsTheOperandFields := by
  unfold Obligations.StepKeepsTheOperandFields
  exact fun _ _ => OperandsInv.step

/-! ## The scoreboard -/

theorem ScoreboardInv.entryAtCheck {s : State} (hs : ScoreboardInv s) (r : RegIdx) :
    entryAtCheck s r = none ∨ entryAtCheck s r = some .execute := by
  obtain he | he := entryAtCheck_or s r
  · exact .inl he
  · exact he ▸ hs.codes r

theorem ScoreboardInv.entryAtCheck_zero {s : State} (hs : ScoreboardInv s) : Machine.entryAtCheck s 0 = none := by
  obtain he | he := entryAtCheck_or s 0
  · exact he
  · rw [he, hs.zero]

theorem ScoreboardInv.step {s t : State} (hs : ScoreboardInv s) (h : step s = .next t) : ScoreboardInv t := by
  cases stepOutcome_of_next h with
  | idle _ heq => exact heq ▸ hs
  | issued _ _ _ hissues =>
    refine ⟨?_, fun r => ?_⟩
    · rw [hissues.scoreboard, if_neg (fun hmark => hmark.2 rfl), hs.entryAtCheck_zero]
    · rw [hissues.scoreboard]
      split
      · exact .inr rfl
      · exact hs.entryAtCheck r
  | stalled _ _ _ hstalls =>
    refine ⟨?_, fun r => ?_⟩
    · rw [hstalls.scoreboard, hs.entryAtCheck_zero]
    · rw [hstalls.scoreboard]
      exact hs.entryAtCheck r

/-- Settles O42: a step clears entries, and marks with code 3 a register other than 0. -/
theorem stepKeepsTheScoreboardInvariant : Obligations.StepKeepsTheScoreboardInvariant := by
  unfold Obligations.StepKeepsTheScoreboardInvariant
  exact fun _ _ => ScoreboardInv.step

/-- A register that is still busy at the check has its producer in EX or MEM: the one in WB has just freed its own. -/
theorem ProducerInv.of_busy_at_check {s : State} (hslots : SlotsInv s) (hs : ProducerInv s) {r : RegIdx}
    (hbusy : entryAtCheck s r ≠ none) : s.sEX.dest = some r ∨ s.sMEM.dest = some r := by
  have hread : s.sb.read r ≠ none := (entryAtCheck_or s r).resolve_left hbusy ▸ hbusy
  obtain hEX | hMEM | hWB := hs r hread
  · exact .inl hEX
  · exact .inr hMEM
  · cases hvalid : s.sWB.valid with
    | true => exact absurd (entryAtCheck_of_leaves_WB hvalid hWB) hbusy
    | false => simp [hslots.sWB.dest_eq_none hvalid] at hWB

theorem ProducerInv.step {s t : State} (hslots : SlotsInv s) (hs : ProducerInv s) (h : step s = .next t) :
    ProducerInv t := by
  have hmoves (hdrains : Drains s t) (r : RegIdx) (hbusy : entryAtCheck s r ≠ none) :
      t.sMEM.dest = some r ∨ t.sWB.dest = some r := by
    rw [hdrains.mem, hdrains.wb]
    exact hs.of_busy_at_check hslots hbusy
  cases stepOutcome_of_next h with
  | idle _ heq => exact heq ▸ hs
  | issued _ hcycled _ hissues =>
    intro r hbusy
    rw [hissues.scoreboard] at hbusy
    split at hbusy
    · next hmark => exact .inl (hissues.ex ▸ hmark.1)
    · exact .inr (hmoves hcycled.drains r hbusy)
  | stalled _ hcycled _ hstalls =>
    intro r hbusy
    rw [hstalls.scoreboard] at hbusy
    exact .inr (hmoves hcycled.drains r hbusy)

/-- Settles O43: a mark comes with its producer's entry into EX, and a producer leaves WB only with the clear. -/
theorem stepKeepsAProducerForEveryBusyRegister : Obligations.StepKeepsAProducerForEveryBusyRegister := by
  unfold Obligations.StepKeepsAProducerForEveryBusyRegister
  exact fun _ _ => ProducerInv.step

/-- Settles O44: a busy register would have a producer, and the producing stages hold bubbles. -/
theorem drainedScoreboardIsClear : Obligations.DrainedScoreboardIsClear := by
  unfold Obligations.DrainedScoreboardIsClear
  intro s hslots hproducers hdrained r
  obtain ⟨-, -, -, hEX, hMEM, hWB⟩ := (drained_iff s).mp hdrained
  by_contra hbusy
  have hproducer := hproducers r hbusy
  simp [hslots.sEX.dest_eq_none hEX, hslots.sMEM.dest_eq_none hMEM, hslots.sWB.dest_eq_none hWB] at hproducer

/-! ## The fetch index and the inputs -/

theorem Drains.length_imem {s t : State} (h : Drains s t) : t.imem.length = s.imem.length := by
  rw [h.inputs.imem]

theorem FetchInv.step {s t : State} (hs : FetchInv s) (h : step s = .next t) : FetchInv t := by
  cases stepOutcome_of_next h with
  | idle _ heq => exact heq ▸ hs
  | issued _ hcycled _ hissues =>
    rw [FetchInv, hcycled.drains.length_imem]
    obtain ⟨w, hw, -, hfi⟩ | ⟨-, -, hfi⟩ := hissues.fetch_cases
    · have hlt : s.fi < s.imem.length := (List.getElem?_eq_some_iff.mp hw).1
      rw [hfi]
      exact hlt
    · rw [hfi]
      exact hs
  | stalled _ hcycled _ hstalls =>
    rw [FetchInv, hcycled.drains.length_imem, hstalls.keepsFI]
    exact hs

/-- Settles O45: the index moves only past a word that the store holds. -/
theorem stepKeepsTheFetchIndexInBounds : Obligations.StepKeepsTheFetchIndexInBounds := by
  unfold Obligations.StepKeepsTheFetchIndexInBounds
  exact fun _ _ => FetchInv.step

theorem step_sameInputs {s t : State} (h : step s = .next t) : SameInputs s t := by
  obtain ⟨-, rfl⟩ | ⟨-, hcycled⟩ := idle_or_cycled h
  · exact ⟨rfl, rfl, rfl, rfl⟩
  · exact hcycled.drains.inputs

/-- Settles O46: no operation of the cycle writes an input. -/
theorem stepKeepsTheInputs : Obligations.StepKeepsTheInputs := by
  unfold Obligations.StepKeepsTheInputs
  exact fun _ _ => step_sameInputs

/-! ## The history -/

theorem HistoryInv.of_cycled {s t : State} (hs : HistoryInv s) (h : Cycled s t) : HistoryInv t := by
  obtain ⟨hlength, hnumbers⟩ := hs
  have hhistory := h.recorded.history
  have htotal := h.drains.total
  by_cases hroom : s.history.length < 50
  · rw [if_pos hroom] at hhistory
    constructor
    · rw [hhistory, List.length_append, List.length_singleton, htotal]
      omega
    · have hnumber : t.metrics.totalCycles = s.history.length + 1 := by omega
      rw [hhistory, List.map_append, List.length_append, List.length_singleton, List.range_succ, List.map_append,
        hnumbers, List.map_singleton, List.map_singleton, hnumber]
  · rw [if_neg hroom] at hhistory
    constructor
    · rw [hhistory, htotal]
      omega
    · rw [hhistory, hnumbers]

theorem HistoryInv.step {s t : State} (hs : HistoryInv s) (h : step s = .next t) : HistoryInv t := by
  obtain ⟨-, rfl⟩ | ⟨-, hcycled⟩ := idle_or_cycled h
  · exact hs
  · exact hs.of_cycled hcycled

/-- No entry is changed or removed (R159). -/
theorem step_extends_history {s t : State} (h : step s = .next t) : s.history <+: t.history := by
  obtain ⟨-, rfl⟩ | ⟨-, hcycled⟩ := idle_or_cycled h
  · exact List.prefix_rfl
  · rw [hcycled.recorded.history]
    split
    · exact List.prefix_append _ _
    · exact List.prefix_rfl

/-- Settles O47: a cycle appends the entry of its own number, or nothing at the cap. -/
theorem stepKeepsTheHistoryShape : Obligations.StepKeepsTheHistoryShape := by
  unfold Obligations.StepKeepsTheHistoryShape
  exact fun s t hs h => ⟨hs.step h, step_extends_history h⟩

end Sys2Proof.Machine
end

section
/-! PROOFS. The counters (R105, R106, R107, R161), the cycle cap (R102), and the stalls (R96, R97, R137): what each
counter can do in one cycle, and from it what every step keeps. -/

namespace Sys2Proof.Machine

/-! ## What one check can add to the counters -/

theorem Finding.loadUses_add_forwards_le (f : Finding) :
    f.loadUses + f.forwards ≤ if f.hazards then 1 else 0 := by
  cases f with
  | forwarded st r => exact Nat.le_refl 1
  | nothing | loadUse | rawStall | noMeaning => decide

/-- R127 does not apply with forwarding enabled. -/
theorem finding_ne_rawStall_with_forwarding {s : State} (hfwd : s.fwd = true) (o : Operand) :
    finding s o ≠ .rawStall := by
  cases o with
  | none => nofun
  | some r =>
    by_cases h0 : r = 0
    · rw [h0, finding_zero]
      nofun
    · cases he : entryAtCheck s r with
      | none =>
        rw [finding_free he]
        nofun
      | some st =>
        rw [finding_busy h0 he, hfwd, if_neg (c := true = false) nofun]
        split_ifs <;> nofun

theorem finding_stalls_with_forwarding {s : State} (hfwd : s.fwd = true) {o : Operand}
    (h : (finding s o).stalls = true) : finding s o = .loadUse := by
  cases hf : finding s o with
  | loadUse => rfl
  | rawStall => exact absurd hf (finding_ne_rawStall_with_forwarding hfwd o)
  | nothing | forwarded st r | noMeaning => simp [hf, Finding.stalls] at h

section
variable {s t : State} {ops : Operands} {control : Bool} (h : Checks s ops control t)
include h

/-- The three causes of a stall (R129). -/
theorem Checks.stall_iff : t.report.stallRequired = true ↔
    (finding s ops.src1).stalls = true ∨ (finding s ops.src2).stalls = true ∨ (control = true ∧ s.bp = false) := by
  rw [h.report, reportFrom]
  simp [or_assoc]

theorem Checks.no_stall_of_nothing (h1 : finding s ops.src1 = .nothing) (h2 : finding s ops.src2 = .nothing)
    (hpredicted : control = false ∨ s.bp = true) : t.report.stallRequired = false := by
  rw [Bool.eq_false_iff, Ne, h.stall_iff, h1, h2]
  obtain hnot | hbp := hpredicted
  · simp [Finding.stalls, hnot]
  · simp [Finding.stalls, hbp]

/-- R124 to R126: an operand that is load-use or forwarded makes the cycle a raw hazard. -/
theorem Checks.perOperand : t.metrics.loadUseStalls + t.metrics.forwardCount + 2 * s.metrics.rawHazardCount
    ≤ s.metrics.loadUseStalls + s.metrics.forwardCount + 2 * t.metrics.rawHazardCount := by
  have honce : ∀ a b : Bool, (if a then 1 else 0) + (if b then 1 else 0) ≤ 2 * (if a || b then 1 else 0) := by decide
  have hboth := honce (finding s ops.src1).hazards (finding s ops.src2).hazards
  have hf1 := (finding s ops.src1).loadUses_add_forwards_le
  have hf2 := (finding s ops.src2).loadUses_add_forwards_le
  rw [h.raws, h.loadUses, h.forwards]
  omega

theorem Checks.raws_le : s.metrics.rawHazardCount ≤ t.metrics.rawHazardCount ∧
    t.metrics.rawHazardCount ≤ s.metrics.rawHazardCount + 1 := by
  rw [h.raws]
  split <;> omega

theorem Checks.branches_le : s.metrics.branchStalls ≤ t.metrics.branchStalls ∧
    t.metrics.branchStalls ≤ s.metrics.branchStalls + 1 := by
  rw [h.branches]
  split <;> omega

theorem Checks.loadUses_le : s.metrics.loadUseStalls ≤ t.metrics.loadUseStalls := by
  rw [h.loadUses]
  omega

theorem Checks.forwards_le : s.metrics.forwardCount ≤ t.metrics.forwardCount := by
  rw [h.forwards]
  omega

theorem Checks.no_forward (hfwd : s.fwd = false) : t.metrics.forwardCount = s.metrics.forwardCount := by
  rw [h.forwards, (finding_forwards_without_forwarding hfwd _).2, (finding_forwards_without_forwarding hfwd _).2,
    Nat.add_zero]

/-- Every stall has a cause that is counted in the same cycle. -/
theorem Checks.cause_of_stall (hstall : t.report.stallRequired = true) :
    s.metrics.rawHazardCount + s.metrics.branchStalls + 1 ≤ t.metrics.rawHazardCount + t.metrics.branchStalls := by
  rw [h.raws, h.branches]
  obtain h1 | h2 | ⟨hcontrol, -⟩ := h.stall_iff.mp hstall
  · simp [Finding.hazards_of_stalls h1]
    omega
  · simp [Finding.hazards_of_stalls h2]
    omega
  · simp [hcontrol]
    omega

/-- With forwarding and prediction only a load-use hazard stalls. -/
theorem Checks.loadUse_of_stall (hbp : s.bp = true) (hfwd : s.fwd = true) (hstall : t.report.stallRequired = true) :
    s.metrics.loadUseStalls + 1 ≤ t.metrics.loadUseStalls := by
  rw [h.loadUses]
  obtain h1 | h2 | ⟨-, hnot⟩ := h.stall_iff.mp hstall
  · rw [finding_stalls_with_forwarding hfwd h1, Finding.loadUses]
    omega
  · rw [finding_stalls_with_forwarding hfwd h2, Finding.loadUses]
    omega
  · simp [hbp] at hnot

end

/-! ## The counters -/

theorem Cycled.stallCycles_le {s t : State} (h : Cycled s t) : s.metrics.stallCycles ≤ t.metrics.stallCycles := by
  rw [h.stallCycles]
  omega

theorem Drains.completed_le {s t : State} (h : Drains s t) :
    s.metrics.totalInstructionsCompleted ≤ t.metrics.totalInstructionsCompleted := by
  rw [h.completed]
  omega

theorem OccupancyInv.step {s t : State} (hs : OccupancyInv s) (h : step s = .next t) : OccupancyInv t := by
  cases stepOutcome_of_next h with
  | idle _ heq => exact heq ▸ hs
  | issued _ hcycled _ hissues =>
    obtain ⟨hwb, hmem, htotal, -, -⟩ := hcycled.drains
    constructor <;> rw [htotal]
    · exact fun _ => Nat.le_add_left 1 _
    · rw [hissues.id, decoded_valid]
      exact fun hv => Nat.succ_le_succ (hs.sIF hv)
    · rw [hissues.ex]
      exact fun hv => Nat.succ_le_succ (hs.sID hv)
    · rw [hmem]
      exact fun hv => Nat.succ_le_succ (hs.sEX hv)
    · rw [hwb]
      exact fun hv => Nat.succ_le_succ (hs.sMEM hv)
  | stalled _ hcycled _ hstalls =>
    obtain ⟨hwb, hmem, htotal, -, -⟩ := hcycled.drains
    constructor <;> rw [htotal]
    · exact fun _ => Nat.le_add_left 1 _
    · obtain hID | hID := hstalls.sID_cases <;> rw [hID]
      · nofun
      · exact fun hv => Nat.le_succ_of_le (hs.sID hv)
    · rw [hstalls.ex]
      nofun
    · rw [hmem]
      exact fun hv => Nat.succ_le_succ (hs.sEX hv)
    · rw [hwb]
      exact fun hv => Nat.succ_le_succ (hs.sMEM hv)

theorem CountersInv.of_cycled {s t : State} (hocc : OccupancyInv s) (hs : CountersInv s) (h : Cycled s t) :
    CountersInv t := by
  obtain ⟨-, hdrains, hchecks, -, hstallCycles⟩ := h
  obtain ⟨-, -, htotal, hcompleted, -, hfwd, hbp, -⟩ := hdrains
  have hraws := hchecks.raws_le
  have hbranches := hchecks.branches_le
  refine ⟨?_, ?_, ?_, ?_, fun hoff => ?_, ?_, ?_, fun hbpOn hfwdOn => ?_⟩
  · have hbound := hs.stalls
    rw [hstallCycles, htotal]
    split <;> omega
  · have hbound := hs.raws
    omega
  · have hbound := hs.branches
    omega
  · have hbound := hs.perOperand
    have hadded := hchecks.perOperand
    omega
  · rw [hfwd] at hoff
    rw [hchecks.no_forward hoff, hs.noForward hoff]
  · have hbound := hs.completed
    rw [hcompleted, htotal]
    split
    · next hv =>
      have hlate := hocc.sWB hv
      omega
    · omega
  · have hbound := hs.causes
    rw [hstallCycles]
    split
    · next hstall =>
      have hcause := hchecks.cause_of_stall hstall
      omega
    · omega
  · rw [hbp] at hbpOn
    rw [hfwd] at hfwdOn
    have hbound := hs.onlyLoadUse hbpOn hfwdOn
    rw [hstallCycles]
    split
    · next hstall =>
      have hcause := hchecks.loadUse_of_stall hbpOn hfwdOn hstall
      omega
    · have hmonotone := hchecks.loadUses_le
      omega

theorem CountersInv.step {s t : State} (hocc : OccupancyInv s) (hs : CountersInv s) (h : step s = .next t) :
    CountersInv t := by
  obtain ⟨-, rfl⟩ | ⟨-, hcycled⟩ := idle_or_cycled h
  · exact hs
  · exact hs.of_cycled hocc hcycled

/-- Settles O48: what a check adds to each counter, and the cycle count that moves in every cycle. -/
theorem stepKeepsTheCounterRelations : Obligations.StepKeepsTheCounterRelations := by
  unfold Obligations.StepKeepsTheCounterRelations
  intro s t hocc hs h
  refine ⟨hocc.step h, hs.step hocc h, ?_⟩
  obtain ⟨-, rfl⟩ | ⟨-, hcycled⟩ := idle_or_cycled h
  · simp
  · have hchecks := hcycled.checks
    exact ⟨hcycled.drains.total ▸ Nat.le_succ _, hcycled.drains.completed_le, hcycled.stallCycles_le,
      hchecks.forwards_le, hchecks.branches_le.1, hchecks.loadUses_le, hchecks.raws_le.1⟩

/-! ## The instruction account -/

theorem isControl_zero (p : Params) : isControl p 0#32 = false := by
  rw [isControl_eq_controlOf, decodeInstr_zero, controlOf, Instr.cls]

/-- A bubble in ID never stalls: its word reads nothing and is not control-class (R136). -/
theorem Cycled.no_stall_of_zero_word {s t : State} (h : Cycled s t) (hword : s.sID.word = 0#32) :
    t.report.stallRequired = false := by
  have hops : s.sID.operands = ⟨none, none, none⟩ := by rw [h.decoded, hword, decode_zero]
  have hchecks := h.checks
  rw [hops, hword, isControl_zero] at hchecks
  exact hchecks.no_stall_of_nothing rfl rfl (.inl rfl)

/-- So a stalled cycle holds back an instruction. -/
theorem Cycled.valid_of_stall {s t : State} (hslots : SlotsInv s) (h : Cycled s t)
    (hstall : t.report.stallRequired = true) : s.sID.valid = true := by
  by_contra hinvalid
  obtain ⟨hword, -⟩ := hslots.sID (Bool.eq_false_iff.mpr hinvalid)
  simp [h.no_stall_of_zero_word hword] at hstall

theorem Drains.completed_toNat {s t : State} (h : Drains s t) :
    t.metrics.totalInstructionsCompleted = s.metrics.totalInstructionsCompleted + s.sWB.valid.toNat := by
  rw [h.completed]
  cases s.sWB.valid <;> rfl

/-- A cycle that issues keeps what is in flight, but for what leaves WB and what is fetched. -/
theorem Issues.inFlight_eq {s t : State} {dest : Operand} (h : Issues s dest t) :
    inFlight t + s.sWB.valid.toNat + s.fi = inFlight s + t.fi := by
  have hfetch : t.sIF.valid.toNat + s.fi = t.fi := by
    obtain ⟨w, -, hIF, hfi⟩ | ⟨-, hIF, hfi⟩ := h.fetch_cases
    · rw [hIF, hfi, fetched_valid, Bool.toNat_true, Nat.add_comm]
    · rw [hIF, hfi, bubble_valid, Bool.toNat_false, Nat.zero_add]
  rw [inFlight, inFlight, h.id, h.ex, h.drains.mem, h.drains.wb, decoded_valid]
  omega

/-- A stalled cycle puts a bubble into EX; what was in ID is counted by the policy. -/
theorem Stalls.inFlight_eq {s t : State} (h : Stalls s t) :
    inFlight t + s.sWB.valid.toNat + s.sID.valid.toNat = inFlight s + t.sID.valid.toNat := by
  rw [inFlight, inFlight, h.keepsIF, h.ex, h.drains.mem, h.drains.wb, bubble_valid, Bool.toNat_false]
  omega

theorem AccountInv.step {s t : State} (hslots : SlotsInv s) (hs : AccountInv s) (h : step s = .next t) :
    AccountInv t := by
  cases stepOutcome_of_next h with
  | idle _ heq => exact heq ▸ hs
  | issued _ hcycled _ hissues =>
    have hcompleted := hcycled.drains.completed_toNat
    have hflight := hissues.inFlight_eq
    have hstallCycles := hissues.stallCycles
    constructor <;> intro hp <;> rw [hcycled.drains.inputs.params] at hp
    · have haccount := hs.bubble hp
      omega
    · have haccount := hs.hold hp
      omega
  | stalled _ hcycled hstall hstalls =>
    have hcompleted := hcycled.drains.completed_toNat
    have hflight := hstalls.inFlight_eq
    have hstallCycles := hstalls.stallCycles
    have hfi := hstalls.keepsFI
    constructor <;> intro hp <;> rw [hcycled.drains.inputs.params] at hp
    · have haccount := hs.bubble hp
      rw [hcycled.valid_of_stall hslots hstall, hstalls.discards hp, bubble_valid, Bool.toNat_true, Bool.toNat_false]
        at hflight
      omega
    · have haccount := hs.hold hp
      rw [hstalls.holds hp] at hflight
      omega

/-- Settles O49: a stall discards the instruction in ID under BUBBLE and keeps it under HOLD. -/
theorem stepKeepsTheInstructionAccount : Obligations.StepKeepsTheInstructionAccount := by
  unfold Obligations.StepKeepsTheInstructionAccount
  exact fun _ _ => AccountInv.step

/-! ## The cycle cap -/

theorem CapInv.step {s t : State} (hs : CapInv s) (h : step s = .next t) : CapInv t := by
  obtain ⟨-, rfl⟩ | ⟨hrunning, hcycled⟩ := idle_or_cycled h
  · exact hs
  · have hbound := hs.bound
    have hbelow : s.metrics.totalCycles ≠ 500 := fun hcap => by simp [hs.done hcap] at hrunning
    refine ⟨?_, fun hcap => (hcycled.recorded.done hrunning).mpr (.inr hcap)⟩
    rw [hcycled.drains.total]
    omega

/-- Settles O50: a run that is not over is below the cap, and the cycle that reaches it ends the run. -/
theorem stepKeepsTheCycleCap : Obligations.StepKeepsTheCycleCap := by
  unfold Obligations.StepKeepsTheCycleCap
  exact fun _ _ => CapInv.step

/-! ## Stalls -/

theorem afterStallInv_of_step {s t : State} (hrunning : s.done = false) (h : step s = .next t) : AfterStallInv t := by
  intro hp hstall
  cases stepOutcome_of_next h with
  | idle hdone _ => simp [hrunning] at hdone
  | issued _ _ hno _ => simp [hno] at hstall
  | stalled _ hcycled _ hstalls =>
    rw [hcycled.drains.inputs.params] at hp
    exact hstalls.discards hp

/-- Settles O51: the stall leaves a bubble in ID, and a bubble never stalls. -/
theorem stalledCyclesAreNeverConsecutive : Obligations.StalledCyclesAreNeverConsecutive := by
  unfold Obligations.StalledCyclesAreNeverConsecutive
  intro s t u hp hrunning h hstall hrunning' h'
  have hpolicy : t.params.stallIdPolicy = .bubble := by rw [(step_sameInputs h).params, hp]
  have hID : t.sID = Slot.bubble := afterStallInv_of_step hrunning h hpolicy hstall
  exact (cycled_of_step hrunning' h').no_stall_of_zero_word (by rw [hID, bubble_word])

/-- Every operand is the one source of some JR. -/
theorem finding_meaningful_of_scoreboardInv {s : State} (hs : ScoreboardInv s) (o : Operand) :
    finding s o ≠ .noMeaning := by
  cases o with
  | none => nofun
  | some r => exact (codesMeaningful_of_scoreboardInv hs (.jr r 0 0 0)).1

/-- Settles O52: without prediction the control check demands a stall in every cycle, and HOLD keeps the word in ID. -/
theorem heldControlWordNeverLeavesId : Obligations.HeldControlWordNeverLeavesId := by
  unfold Obligations.HeldControlWordNeverLeavesId
  intro s hp hbp hrunning hdecoded hsb hcontrol
  obtain ⟨t, ht⟩ := step_defined hrunning hdecoded (finding_meaningful_of_scoreboardInv hsb _)
    (finding_meaningful_of_scoreboardInv hsb _)
  have hchecks := (cycled_of_step hrunning ht).checks
  have hbranches := hchecks.branches
  rw [hcontrol, if_pos rfl] at hbranches
  have hdue : t.report.stallRequired = true := hchecks.stall_iff.mpr (.inr (.inr ⟨hcontrol, hbp⟩))
  cases stepOutcome_of_next ht with
  | idle hdone _ => simp [hrunning] at hdone
  | issued _ _ hno _ => simp [hno] at hdue
  | stalled _ _ _ hstalls =>
    exact ⟨t, ht, hstalls.holds hp, hstalls.keepsIF, hstalls.keepsFI, hstalls.stallCycles, hbranches⟩

/-- R137: an operand that neither the instruction in EX nor the one in MEM writes is available at the check. -/
theorem finding_nothing_of_unwritten {s : State} (hslots : SlotsInv s) (hproducers : ProducerInv s) {o : Operand}
    (h : ∀ r, r ≠ 0 → o = some r → s.sEX.dest ≠ some r ∧ s.sMEM.dest ≠ some r) : finding s o = .nothing := by
  cases o with
  | none => rfl
  | some r =>
    by_cases h0 : r = 0
    · rw [h0, finding_zero]
    · obtain ⟨hEX, hMEM⟩ := h r h0 rfl
      apply finding_free
      by_contra hbusy
      exact (hproducers.of_busy_at_check hslots hbusy).elim hEX hMEM

/-- Settles O53: both operands are available, so nothing is counted and only the control check could stall. -/
theorem noReadOfTheTwoAheadIsNoDataHazard : Obligations.NoReadOfTheTwoAheadIsNoDataHazard := by
  unfold Obligations.NoReadOfTheTwoAheadIsNoDataHazard
  intro s hslots hproducers hreads hdecoded hrunning
  have h1 : finding s s.sID.src1 = .nothing :=
    finding_nothing_of_unwritten hslots hproducers (fun r h0 hr => hreads r h0 (.inl hr))
  have h2 : finding s s.sID.src2 = .nothing :=
    finding_nothing_of_unwritten hslots hproducers (fun r h0 hr => hreads r h0 (.inr hr))
  obtain ⟨t, ht⟩ := step_defined hrunning hdecoded (by rw [h1]; nofun) (by rw [h2]; nofun)
  have hchecks := (cycled_of_step hrunning ht).checks
  obtain ⟨hraws, hloads, hforwards⟩ := hchecks.data_counters_of_nothing h1 h2
  exact ⟨t, ht, hraws, hloads, hforwards, hchecks.no_stall_of_nothing h1 h2⟩

/-! ## All invariants together -/

theorem RunInv.step {s t : State} (hs : RunInv s) (h : step s = .next t) : RunInv t := by
  obtain ⟨-, rfl⟩ | ⟨hrunning, -⟩ := idle_or_cycled h
  · exact hs
  · exact
      { slots := hs.slots.step h
        operands := hs.operands.step h
        scoreboard := hs.scoreboard.step h
        producers := hs.producers.step hs.slots h
        fetch := hs.fetch.step h
        history := hs.history.step h
        occupancy := hs.occupancy.step h
        counters := hs.counters.step hs.occupancy h
        account := hs.account.step hs.slots h
        cap := hs.cap.step h
        afterStall := afterStallInv_of_step hrunning h }

/-- Progress: the operand and scoreboard invariants rule out both grounds of a refusal. -/
theorem RunInv.step_defined {s : State} (hs : RunInv s) : ∃ t, Machine.step s = .next t := by
  cases hdone : s.done with
  | true => exact ⟨s, step_done hdone⟩
  | false =>
    exact Machine.step_defined hdone hs.operands.sID (finding_meaningful_of_scoreboardInv hs.scoreboard _)
      (finding_meaningful_of_scoreboardInv hs.scoreboard _)

/-- Settles O54: progress, and preservation invariant by invariant. -/
theorem everyStateOfARunHasASuccessor : Obligations.EveryStateOfARunHasASuccessor := by
  unfold Obligations.EveryStateOfARunHasASuccessor
  intro s hs
  obtain ⟨t, ht⟩ := hs.step_defined
  exact ⟨t, ht, hs.step ht⟩

theorem runInv_resetWith (p : Params) (imem : List Word) (fwd bp : Bool) : RunInv (State.resetWith p imem fwd bp) where
  slots := ⟨bubbleForm_bubble, bubbleForm_bubble, bubbleForm_bubble, bubbleForm_bubble, bubbleForm_bubble⟩
  operands := ⟨rfl, bubble_operands_eq_decode p, bubble_operands_eq_decode p, bubble_operands_eq_decode p,
    bubble_operands_eq_decode p⟩
  scoreboard := ⟨read_replicate 0, fun r => .inl (read_replicate r)⟩
  producers r hbusy := absurd (read_replicate r) hbusy
  fetch := Nat.zero_le _
  history := ⟨rfl, rfl⟩
  occupancy := ⟨nofun, nofun, nofun, nofun, nofun⟩
  counters := ⟨Nat.le_refl 0, Nat.le_refl 0, Nat.le_refl 0, Nat.le_refl 0, fun _ => rfl, Nat.le_refl 0, Nat.le_refl 0,
    fun _ _ => Nat.le_refl 0⟩
  account := ⟨fun _ => rfl, fun _ => rfl⟩
  cap := ⟨Nat.zero_le 500, nofun⟩
  afterStall _ := nofun

/-- Settles O39: bubbles, a clear scoreboard and zero counters. -/
theorem resetMeetsTheInvariants : Obligations.ResetMeetsTheInvariants := by
  unfold Obligations.ResetMeetsTheInvariants
  exact runInv_resetWith

end Sys2Proof.Machine
end

section
/-! PROOFS. Runs from reset (R102, R104, R105, R155, R160): what holds at reset and is kept by every step holds in every
state of a run, and every run ends. -/

namespace Sys2Proof.Machine

/-! ## Runs -/

theorem runSteps_succ_next {k : Nat} {s t : State} (h : runSteps (k + 1) s = .next t) :
    ∃ u, step s = .next u ∧ runSteps k u = .next t := by
  rw [runSteps] at h
  split at h
  · next u hu => exact ⟨u, hu, h⟩
  · cases h
  · cases h

theorem runSteps_keeps {P : State → Prop} (hkeeps : ∀ s t, P s → step s = .next t → P t) {k : Nat} {s t : State}
    (hs : P s) (h : runSteps k s = .next t) : P t := by
  induction k generalizing s with
  | zero =>
    rw [runSteps_zero, Host.Outcome.next.injEq] at h
    exact h ▸ hs
  | succ k ih =>
    obtain ⟨u, hu, hrest⟩ := runSteps_succ_next h
    exact ih (hkeeps s u hs hu) hrest

/-- The induction over a run, done once. -/
theorem runsTo_induction {P : State → Prop} (hkeeps : ∀ s t, P s → step s = .next t → P t)
    {p : Params} {imem : List Word} {fwd bp : Bool} {k : Nat} {t : State} (h : RunsTo p imem fwd bp k t)
    (hreset : P (State.resetWith p imem fwd bp)) : P t :=
  runSteps_keeps hkeeps hreset h

theorem SameInputs.trans {s u v : State} (h1 : SameInputs s u) (h2 : SameInputs u v) : SameInputs s v :=
  ⟨h2.imem.trans h1.imem, h2.fwd.trans h1.fwd, h2.bp.trans h1.bp, h2.params.trans h1.params⟩

section
variable {p : Params} {imem : List Word} {fwd bp : Bool} {k : Nat} {t : State} (h : RunsTo p imem fwd bp k t)
include h

theorem runInv_of_runsTo : RunInv t :=
  runsTo_induction (fun _ _ hs hstep => hs.step hstep) h (runInv_resetWith p imem fwd bp)

theorem sameInputs_of_runsTo : SameInputs (State.resetWith p imem fwd bp) t :=
  runsTo_induction (fun _ _ hs hstep => hs.trans (step_sameInputs hstep)) h ⟨rfl, rfl, rfl, rfl⟩

/-- The termination check is made only after a cycle (R101). -/
theorem totalCycles_pos_of_done (hdone : t.done = true) : 1 ≤ t.metrics.totalCycles := by
  refine runsTo_induction (P := fun s => s.done = true → 1 ≤ s.metrics.totalCycles) (fun s u hs hstep hu => ?_) h
    nofun hdone
  obtain ⟨hover, rfl⟩ | ⟨-, hcycled⟩ := idle_or_cycled hstep
  · exact hs hover
  · rw [hcycled.drains.total]
    omega

end

/-- A run that is not over counts its steps. -/
theorem runSteps_progress {s : State} (hs : RunInv s) (k : Nat) :
    ∃ t, runSteps k s = .next t ∧ (t.done = true ∨ t.metrics.totalCycles = s.metrics.totalCycles + k) := by
  induction k generalizing s with
  | zero => exact ⟨s, rfl, .inr rfl⟩
  | succ k ih =>
    cases hdone : s.done with
    | true => exact ⟨s, runSteps_done hdone _, .inl hdone⟩
    | false =>
      obtain ⟨u, hu⟩ := hs.step_defined
      obtain ⟨t, ht, hprogress⟩ := ih (hs.step hu)
      refine ⟨t, by rw [runSteps_succ hu, ht], hprogress.imp_right fun htotal => ?_⟩
      rw [htotal, (cycled_of_step hdone hu).drains.total]
      omega

/-- Settles O55: a run that is not over after 500 steps would have counted 500 cycles, and the cap has ended it. -/
theorem everyRunEndsWithinTheCap : Obligations.EveryRunEndsWithinTheCap := by
  unfold Obligations.EveryRunEndsWithinTheCap
  intro p imem fwd bp
  obtain ⟨t, ht, hprogress⟩ := runSteps_progress (runInv_resetWith p imem fwd bp) 500
  have hinv : RunInv t := runInv_of_runsTo ht
  have hdone : t.done = true := hprogress.elim id fun htotal => hinv.cap.done (by rw [htotal]; rfl)
  exact ⟨t, ht, hdone, hinv.cap.bound, hinv⟩

/-- Settles O56: the bundle of the terminal state, whose bounds are the history and counter invariants. -/
theorem simulateAnswersWithASoundResult : Obligations.SimulateAnswersWithASoundResult := by
  unfold Obligations.SimulateAnswersWithASoundResult
  intro p imem fwd bp
  obtain ⟨t, ht, hdone, hbound, hinv⟩ := everyRunEndsWithinTheCap p imem fwd bp
  have hresult : simulate p imem fwd bp = some (bundle t) := by rw [simulate_of_runsTo ht, result_done hdone]
  have hcpi : (bundle t).cpi = cpiOf t.metrics := rfl
  refine ⟨t, bundle t, ht, hdone, hresult, rfl, totalCycles_pos_of_done ht hdone, hbound, hinv.history.length, rfl,
    fun hzero => ?_, fun hpos => ?_⟩
  · rw [hcpi, cpiOf_eq]
    exact if_pos hzero
  · have hden : (bundle t).cpi.den = t.metrics.totalInstructionsCompleted := by
      rw [hcpi, cpiOf_eq]
      exact if_neg (Nat.ne_of_gt hpos)
    have hnum : (bundle t).cpi.num = t.metrics.totalCycles := rfl
    have hbehind : 0 < t.metrics.totalInstructionsCompleted := hpos
    have hcompleted := hinv.counters.completed
    refine ⟨hden, ?_⟩
    rw [hden, hnum]
    omega

/-! ## The instruction account at the end of a run -/

theorem inFlight_of_drained {s : State} (h : drained s = true) : inFlight s = 0 := by
  obtain ⟨-, hIF, hID, hEX, hMEM, hWB⟩ := (drained_iff s).mp h
  rw [inFlight, hIF, hID, hEX, hMEM, hWB]
  rfl

/-- Settles O57: in a drained state everything was fetched and nothing is in flight. -/
theorem drainedRunCompletesAllButTheDiscarded : Obligations.DrainedRunCompletesAllButTheDiscarded := by
  unfold Obligations.DrainedRunCompletesAllButTheDiscarded
  intro p imem fwd bp k t h hdrained
  have hinputs := sameInputs_of_runsTo h
  have hparams : t.params = p := hinputs.params
  have himem : t.imem = imem := hinputs.imem
  have hfi : t.fi = imem.length := by rw [((drained_iff t).mp hdrained).1, himem]
  have hflight := inFlight_of_drained hdrained
  have haccount := (runInv_of_runsTo h).account
  refine ⟨fun hp => ?_, fun hp => ?_⟩
  · have hsum := haccount.bubble (by rw [hparams, hp])
    omega
  · have hsum := haccount.hold (by rw [hparams, hp])
    omega

/-! ## The pace of a run -/

/-- The first `j` stages hold no instruction. -/
structure LeadingBubbles (j : Nat) (s : State) : Prop where
  sIF : 1 ≤ j → s.sIF.valid = false
  sID : 2 ≤ j → s.sID.valid = false
  sEX : 3 ≤ j → s.sEX.valid = false
  sMEM : 4 ≤ j → s.sMEM.valid = false
  sWB : 5 ≤ j → s.sWB.valid = false

/-- Every cycle fetches, stalls, or moves the front of the bubbles one stage on; the front starts when the store is
exhausted and ends the run when it has passed WB. -/
def PaceInv (s : State) : Prop :=
  ∃ j, LeadingBubbles j s ∧ j ≤ 5 ∧ (s.done = false → j ≤ 4) ∧ (0 < j → s.fi = s.imem.length) ∧
    s.metrics.totalCycles ≤ s.fi + s.metrics.stallCycles + j

theorem leadingBubbles_zero (s : State) : LeadingBubbles 0 s := by
  constructor <;> nofun

/-- A cycle that issues and fetches nothing moves the front on. -/
theorem LeadingBubbles.issues {j : Nat} {s t : State} {dest : Operand} (hs : LeadingBubbles j s)
    (h : Issues s dest t) (hIF : t.sIF = Slot.bubble) : LeadingBubbles (j + 1) t where
  sIF _ := by rw [hIF, bubble_valid]
  sID hj := by rw [h.id, decoded_valid, hs.sIF (Nat.le_of_succ_le_succ hj)]
  sEX hj := by rw [h.ex, hs.sID (Nat.le_of_succ_le_succ hj)]
  sMEM hj := by rw [h.drains.mem, hs.sEX (Nat.le_of_succ_le_succ hj)]
  sWB hj := by rw [h.drains.wb, hs.sMEM (Nat.le_of_succ_le_succ hj)]

/-- A stalled cycle puts no instruction behind the front. -/
theorem LeadingBubbles.stalls {j : Nat} {s t : State} (hs : LeadingBubbles j s) (h : Stalls s t) :
    LeadingBubbles j t where
  sIF hj := by rw [h.keepsIF, hs.sIF hj]
  sID hj := by
    obtain hID | hID := h.sID_cases <;> rw [hID]
    · rw [bubble_valid]
    · exact hs.sID hj
  sEX _ := by rw [h.ex, bubble_valid]
  sMEM hj := by rw [h.drains.mem, hs.sEX (Nat.le_of_succ_le hj)]
  sWB hj := by rw [h.drains.wb, hs.sMEM (Nat.le_of_succ_le hj)]

theorem LeadingBubbles.drained {s : State} (hs : LeadingBubbles 5 s) (hfi : s.fi = s.imem.length) :
    drained s = true :=
  (drained_iff s).mpr ⟨hfi, hs.sIF (by decide), hs.sID (by decide), hs.sEX (by decide), hs.sMEM (by decide),
    hs.sWB (by decide)⟩

theorem PaceInv.step {s t : State} (hfetch : FetchInv s) (hs : PaceInv s) (h : step s = .next t) : PaceInv t := by
  cases stepOutcome_of_next h with
  | idle _ heq => exact heq ▸ hs
  | issued hrunning hcycled _ hissues =>
    obtain ⟨j, hfront, -, hbehind, hexhausted, hpace⟩ := hs
    have htotal := hcycled.drains.total
    have hlength := hcycled.drains.length_imem
    have hstallCycles := hissues.stallCycles
    obtain ⟨w, hw, -, hfi⟩ | ⟨hnone, hIF, hfi⟩ := hissues.fetch_cases
    · have hlt : s.fi < s.imem.length := (List.getElem?_eq_some_iff.mp hw).1
      exact ⟨0, leadingBubbles_zero t, by omega, by omega, by omega, by omega⟩
    · have hend : s.fi = s.imem.length := Nat.le_antisymm hfetch (List.getElem?_eq_none_iff.mp hnone)
      have hfront' := hfront.issues hissues hIF
      have hfi' : t.fi = t.imem.length := by omega
      refine ⟨j + 1, hfront', Nat.succ_le_succ (hbehind hrunning), fun hrunning' => ?_, fun _ => hfi', by omega⟩
      by_contra hpassed
      have hj : j + 1 = 5 := by
        have := hbehind hrunning
        omega
      have hdone : t.done = true :=
        (hcycled.recorded.done hrunning).mpr (.inl ((drained_iff t).mp ((hj ▸ hfront').drained hfi')))
      simp [hdone] at hrunning'
  | stalled hrunning hcycled _ hstalls =>
    obtain ⟨j, hfront, hj, hbehind, hexhausted, hpace⟩ := hs
    have htotal := hcycled.drains.total
    have hlength := hcycled.drains.length_imem
    have hstallCycles := hstalls.stallCycles
    have hfi := hstalls.keepsFI
    exact ⟨j, hfront.stalls hstalls, hj, fun _ => hbehind hrunning, by omega, by omega⟩

theorem paceInv_of_runsTo {p : Params} {imem : List Word} {fwd bp : Bool} {k : Nat} {t : State}
    (h : RunsTo p imem fwd bp k t) : PaceInv t := by
  have hboth : FetchInv t ∧ PaceInv t :=
    runsTo_induction (P := fun s => FetchInv s ∧ PaceInv s)
      (fun s u hs hstep => ⟨hs.1.step hstep, hs.2.step hs.1 hstep⟩) h
      ⟨Nat.zero_le _, 0, leadingBubbles_zero _, by decide, fun _ => by decide, nofun, Nat.le_refl 0⟩
  exact hboth.2

/-- Settles O58: a cycle fetches, stalls, or is one of the last five; under BUBBLE each stall costs a fetched
instruction, so there are at most N stalls. -/
theorem bubbleRunTakesAtMostTwiceTheProgram : Obligations.BubbleRunTakesAtMostTwiceTheProgram := by
  unfold Obligations.BubbleRunTakesAtMostTwiceTheProgram
  intro p imem fwd bp k t hp h
  have hinv := runInv_of_runsTo h
  have hinputs := sameInputs_of_runsTo h
  have hparams : t.params = p := hinputs.params
  have himem : t.imem = imem := hinputs.imem
  have haccount := hinv.account.bubble (by rw [hparams, hp])
  have hfetch : t.fi ≤ imem.length := himem ▸ hinv.fetch
  obtain ⟨j, -, hj, -, -, hpace⟩ := paceInv_of_runsTo h
  omega

end Sys2Proof.Machine
end

section
/-! PROOFS. A program without register reuse at distance 1 or 2 (R101, R137, R201, R203). No cycle of its run stalls, so
after `k` cycles stage `d` holds the instruction fetched `d` cycles ago: the state of the run is known slot by slot, and
with it that no cycle finds a data hazard and that the run drains in cycle `N + 5`. -/

namespace Sys2Proof.Machine

/-! ## What each stage holds after `k` cycles without a stall -/

/-- The slot of stage `d` (1 for IF to 5 for WB) after `k` cycles: word `k - d` of the program with its decode, or a
bubble before the first word and after the last. -/
def laneSlot (p : Params) (imem : List Word) (k d : Nat) : Slot :=
  if d ≤ k then
    match imem[k - d]? with
    | some w => (Slot.fetched w (pcLabel p (k - d))).decoded p
    | none => .bubble
  else .bubble

section
variable {p : Params} {imem : List Word} {k d : Nat}

theorem laneSlot_word {w : Word} (hd : d ≤ k) (hw : imem[k - d]? = some w) :
    laneSlot p imem k d = (Slot.fetched w (pcLabel p (k - d))).decoded p := by
  rw [laneSlot, if_pos hd, hw]

theorem laneSlot_early (hd : k < d) : laneSlot p imem k d = .bubble :=
  if_neg (Nat.not_le_of_gt hd)

theorem laneSlot_late (hw : imem[k - d]? = none) : laneSlot p imem k d = .bubble := by
  unfold laneSlot
  rw [hw]
  exact ite_self _

/-- A stage holds next what the stage before it holds now. -/
theorem laneSlot_succ : laneSlot p imem (k + 1) (d + 1) = laneSlot p imem k d := by
  simp only [laneSlot, Nat.add_sub_add_right, Nat.add_le_add_iff_right]

theorem laneSlot_cases : laneSlot p imem k d = .bubble ∨
    ∃ w, d ≤ k ∧ imem[k - d]? = some w ∧ laneSlot p imem k d = (Slot.fetched w (pcLabel p (k - d))).decoded p := by
  by_cases hd : d ≤ k
  · cases hw : imem[k - d]? with
    | some w => exact .inr ⟨w, hd, rfl, laneSlot_word hd hw⟩
    | none => exact .inl (laneSlot_late hw)
  · exact .inl (laneSlot_early (Nat.lt_of_not_le hd))

theorem laneSlot_invalid_iff : (laneSlot p imem k d).valid = false ↔ k < d ∨ imem.length ≤ k - d := by
  by_cases hd : d ≤ k
  · cases hw : imem[k - d]? with
    | some w =>
      have hlt : k - d < imem.length := (List.getElem?_eq_some_iff.mp hw).1
      rw [laneSlot_word hd hw, decoded_valid, fetched_valid]
      simp only [Bool.true_eq_false, false_iff]
      omega
    | none =>
      rw [laneSlot_late hw, bubble_valid]
      exact iff_of_true rfl (.inr (List.getElem?_eq_none_iff.mp hw))
  · have hearly : k < d := Nat.lt_of_not_le hd
    rw [laneSlot_early hearly, bubble_valid]
    exact iff_of_true rfl (.inl hearly)

theorem writes_of_laneSlot_dest {r : RegIdx} (h : (laneSlot p imem k d).dest = some r) :
    d ≤ k ∧ writes p imem (k - d) r := by
  obtain hbubble | ⟨w, hd, hw, hslot⟩ := laneSlot_cases (p := p) (imem := imem) (k := k) (d := d)
  · rw [hbubble] at h
    cases h
  · rw [hslot] at h
    exact ⟨hd, w, hw, h⟩

/-- Without reuse, what stands in ID reads no register that one of the two words ahead of it writes. -/
theorem NoReuse.laneSlot (hreuse : NoReuse p imem) {r : RegIdx} (h0 : r ≠ 0)
    (hsrc : (laneSlot p imem k 2).src1 = some r ∨ (laneSlot p imem k 2).src2 = some r) :
    (Machine.laneSlot p imem k 3).dest ≠ some r ∧ (Machine.laneSlot p imem k 4).dest ≠ some r := by
  obtain hbubble | ⟨w, hd, hw, hslot⟩ := laneSlot_cases (p := p) (imem := imem) (k := k) (d := 2)
  · rw [hbubble] at hsrc
    obtain hsrc | hsrc := hsrc <;> cases hsrc
  · rw [hslot] at hsrc
    obtain ⟨hone, htwo⟩ := hreuse (k - 2) w r hw h0 hsrc
    refine ⟨fun hdest => ?_, fun hdest => ?_⟩
    · obtain ⟨hk, hwrites⟩ := writes_of_laneSlot_dest hdest
      exact hone (k - 3) (by omega) hwrites
    · obtain ⟨hk, hwrites⟩ := writes_of_laneSlot_dest hdest
      exact htwo (k - 4) (by omega) hwrites

theorem NoControl.laneSlot (hcontrol : NoControl p imem) : isControl p (laneSlot p imem k d).word = false := by
  obtain hbubble | ⟨w, -, hw, hslot⟩ := laneSlot_cases (p := p) (imem := imem) (k := k) (d := d)
  · rw [hbubble, bubble_word, isControl_zero]
  · rw [hslot, decoded_word, fetched_word]
    exact hcontrol w (List.mem_of_getElem? hw)

end

theorem decoded_bubble (p : Params) : Slot.bubble.decoded p = .bubble := by
  simp [Slot.decoded, Slot.bubble]

/-- The slots and the fetch index after `k` cycles without a stall. IF holds its word before the decode. -/
structure Lanes (p : Params) (imem : List Word) (k : Nat) (s : State) : Prop where
  fi : s.fi = min k imem.length
  sIF : s.sIF.decoded p = laneSlot p imem k 1
  sID : s.sID = laneSlot p imem k 2
  sEX : s.sEX = laneSlot p imem k 3
  sMEM : s.sMEM = laneSlot p imem k 4
  sWB : s.sWB = laneSlot p imem k 5

section
variable {p : Params} {imem : List Word} {k : Nat} {s t : State}

theorem lanes_resetWith (p : Params) (imem : List Word) (fwd bp : Bool) :
    Lanes p imem 0 (State.resetWith p imem fwd bp) where
  fi := (Nat.zero_min _).symm
  sIF := by
    rw [laneSlot_early (by decide)]
    exact decoded_bubble p
  sID := (laneSlot_early (by decide)).symm
  sEX := (laneSlot_early (by decide)).symm
  sMEM := (laneSlot_early (by decide)).symm
  sWB := (laneSlot_early (by decide)).symm

theorem Lanes.issues {dest : Operand} (hs : Lanes p imem k s) (himem : s.imem = imem) (hparams : s.params = p)
    (h : Issues s dest t) : Lanes p imem (k + 1) t := by
  subst himem hparams
  have hfetch : t.fi = min (k + 1) s.imem.length ∧ t.sIF.decoded s.params = laneSlot s.params s.imem (k + 1) 1 := by
    have hindex := hs.fi
    obtain ⟨w, hw, hIF, hfi⟩ | ⟨hnone, hIF, hfi⟩ := h.fetch_cases
    · have hlt : s.fi < s.imem.length := (List.getElem?_eq_some_iff.mp hw).1
      have hk : s.fi = k := by omega
      rw [hk] at hw hIF hfi
      exact ⟨by omega, by rw [hIF, laneSlot_word (Nat.le_add_left 1 k) hw, Nat.add_sub_cancel]⟩
    · have hge : s.imem.length ≤ s.fi := List.getElem?_eq_none_iff.mp hnone
      have hlate : s.imem[k + 1 - 1]? = none := List.getElem?_eq_none_iff.mpr (by omega)
      exact ⟨by omega, by rw [hIF, laneSlot_late hlate, decoded_bubble]⟩
  exact
    { fi := hfetch.1
      sIF := hfetch.2
      sID := by rw [h.id, hs.sIF, laneSlot_succ]
      sEX := by rw [h.ex, hs.sID, laneSlot_succ]
      sMEM := by rw [h.drains.mem, hs.sEX, laneSlot_succ]
      sWB := by rw [h.drains.wb, hs.sMEM, laneSlot_succ] }

/-- The last word leaves WB in cycle `N + 5`, and not before. -/
theorem Lanes.drained_iff (hs : Lanes p imem k s) (himem : s.imem = imem) (hpos : 1 ≤ imem.length)
    (hk : k ≤ imem.length + 5) : drained s = true ↔ k = imem.length + 5 := by
  have hIF : s.sIF.valid = (laneSlot p imem k 1).valid := by rw [← hs.sIF, decoded_valid]
  rw [Machine.drained_iff, himem, hs.fi, hIF, hs.sID, hs.sEX, hs.sMEM, hs.sWB]
  simp only [laneSlot_invalid_iff]
  omega

end

/-! ## The run -/

/-- The state after `k` cycles of the run: the lanes, and no data hazard and no stall counted. -/
structure SmoothRun (p : Params) (imem : List Word) (k : Nat) (s : State) : Prop where
  inv : RunInv s
  imem_eq : s.imem = imem
  params_eq : s.params = p
  predicted : NoControl p imem ∨ s.bp = true
  lanes : Lanes p imem k s
  total : s.metrics.totalCycles = k
  raws : s.metrics.rawHazardCount = 0
  loadUses : s.metrics.loadUseStalls = 0
  forwards : s.metrics.forwardCount = 0
  stalls : s.metrics.stallCycles = 0
  done : s.done = true ↔ k = imem.length + 5

section
variable {p : Params} {imem : List Word} {k : Nat} (hreuse : NoReuse p imem) (hpos : 1 ≤ imem.length)
  (hcap : imem.length ≤ 495)
include hreuse hpos hcap

theorem SmoothRun.step {s : State} (hs : SmoothRun p imem k s) (hk : k < imem.length + 5) :
    ∃ t, step s = .next t ∧ SmoothRun p imem (k + 1) t := by
  have hrunning : s.done = false := Bool.eq_false_iff.mpr (hs.done.not.mpr (Nat.ne_of_lt hk))
  have hreads : ∀ r, r ≠ 0 → s.sID.src1 = some r ∨ s.sID.src2 = some r →
      s.sEX.dest ≠ some r ∧ s.sMEM.dest ≠ some r := by
    rw [hs.lanes.sID, hs.lanes.sEX, hs.lanes.sMEM]
    exact fun r => hreuse.laneSlot
  obtain ⟨t, ht, hraws, hloads, hforwards, hnostall⟩ := noReadOfTheTwoAheadIsNoDataHazard s hs.inv.slots
    hs.inv.producers hreads hs.inv.operands.sID hrunning
  have hpredicted : isControl s.params s.sID.word = false ∨ s.bp = true := by
    rw [hs.params_eq, hs.lanes.sID]
    exact hs.predicted.imp_left NoControl.laneSlot
  refine ⟨t, ht, ?_⟩
  cases stepOutcome_of_next ht with
  | idle hdone _ => simp [hrunning] at hdone
  | stalled _ _ hstall _ => simp [hnostall hpredicted] at hstall
  | issued _ hcycled _ hissues =>
    obtain ⟨himem, -, hbp, hparams⟩ := hcycled.drains.inputs
    rw [hs.imem_eq] at himem
    have hlanes := hs.lanes.issues hs.imem_eq hs.params_eq hissues
    have htotal : t.metrics.totalCycles = k + 1 := by rw [hcycled.drains.total, hs.total]
    exact
      { inv := hs.inv.step ht
        imem_eq := himem
        params_eq := hparams.trans hs.params_eq
        predicted := hbp ▸ hs.predicted
        lanes := hlanes
        total := htotal
        raws := hraws.trans hs.raws
        loadUses := hloads.trans hs.loadUses
        forwards := hforwards.trans hs.forwards
        stalls := hissues.stallCycles.trans hs.stalls
        done := by
          rw [hcycled.recorded.done hrunning, ← Machine.drained_iff, hlanes.drained_iff himem hpos hk, htotal]
          omega }

theorem SmoothRun.runSteps {s : State} (n : Nat) (hs : SmoothRun p imem k s) (hn : k + n = imem.length + 5) :
    ∃ t, runSteps n s = .next t ∧ SmoothRun p imem (imem.length + 5) t := by
  induction n generalizing k s with
  | zero => exact ⟨s, rfl, hn ▸ hs⟩
  | succ n ih =>
    obtain ⟨u, hu, hsmooth⟩ := hs.step hreuse hpos hcap (by omega)
    obtain ⟨t, ht, hend⟩ := ih hsmooth (by omega)
    exact ⟨t, by rw [runSteps_succ hu, ht], hend⟩

end

theorem smoothRun_resetWith {p : Params} {imem : List Word} (fwd bp : Bool)
    (hpredicted : NoControl p imem ∨ bp = true) :
    SmoothRun p imem 0 (State.resetWith p imem fwd bp) where
  inv := runInv_resetWith p imem fwd bp
  imem_eq := rfl
  params_eq := rfl
  predicted := hpredicted
  lanes := lanes_resetWith p imem fwd bp
  total := rfl
  raws := rfl
  loadUses := rfl
  forwards := rfl
  stalls := rfl
  done := ⟨nofun, fun h => by omega⟩

/-- Settles O59: the run is smooth up to cycle `N + 5`, in which it drains; with no stall nothing was discarded, so all
`N` instructions completed under either policy (O57). -/
theorem programWithoutReuseRunsWithoutHazards : Obligations.ProgramWithoutReuseRunsWithoutHazards := by
  unfold Obligations.ProgramWithoutReuseRunsWithoutHazards
  intro p imem fwd bp hreuse hpredicted hpos hcap
  obtain ⟨t, ht, hsmooth⟩ :=
    (smoothRun_resetWith fwd bp hpredicted).runSteps hreuse hpos hcap (imem.length + 5) (Nat.zero_add _)
  have hdrained : drained t = true := (hsmooth.lanes.drained_iff hsmooth.imem_eq hpos (Nat.le_refl _)).mpr rfl
  have hcompleted : t.metrics.totalInstructionsCompleted = imem.length := by
    obtain ⟨hbubble, hhold⟩ := drainedRunCompletesAllButTheDiscarded p imem fwd bp _ t ht hdrained
    cases hp : p.stallIdPolicy with
    | bubble =>
      have hsum := hbubble hp
      rwa [hsmooth.stalls, Nat.add_zero] at hsum
    | hold => exact hhold hp
  exact ⟨t, ht, hsmooth.done.mpr rfl, hdrained, hsmooth.total, hcompleted, hsmooth.raws, hsmooth.loadUses,
    hsmooth.forwards, hsmooth.stalls⟩

end Sys2Proof.Machine
end
